-- ==== Sys2Proof/Word.lean ====
section
/-! DEFINITION. The word types of the RAS-DSP core (spec 00_scope.md R10, R11, R14). -/

namespace Sys2Proof

/-- A byte of the arena (R61). -/
abbrev Byte := BitVec 8

/-- A 32-bit word: the unit of every register and of every arena element (R10). It holds a u32 or the
bit pattern of an f32 (R11). -/
abbrev Word := BitVec 32

/-- A complex value, a pair of f32 bit patterns (R14). -/
structure C32 where
  re : Word
  im : Word
deriving DecidableEq, Repr, Inhabited

end Sys2Proof
end

