-- ==== Sys2Proof/Syntax.lean ====
section
/-! DEFINITION. The command set (30_encoding.md R88): one constructor per row of the opcode table. A command
has no operand in its word: the operands are ARG0 to ARG4, read when it executes (R85, R91, R94). -/

namespace Sys2Proof

/-- The 26 commands of the RAS-DSP core. -/
inductive Instr where
  /-- NOP (R138). -/
  | nop
  /-- INIT (R139). -/
  | init
  /-- CLEANUP (R141). -/
  | cleanup
  /-- GET_INPUT_BUFFER (R142). -/
  | getInputBuffer
  /-- GET_OUTPUT_BUFFER (R143). -/
  | getOutputBuffer
  /-- BUF_SCALE (R155). -/
  | bufScale
  /-- BUF_ADD (R156). -/
  | bufAdd
  /-- BUF_MIX (R157). -/
  | bufMix
  /-- BUF_COPY (R158). -/
  | bufCopy
  /-- BUF_CLEAR (R159). -/
  | bufClear
  /-- BUF_INTERLEAVE (R160). -/
  | bufInterleave
  /-- BUF_DEINTERLEAVE (R161). -/
  | bufDeinterleave
  /-- BUF_GAIN_RAMP (R162). -/
  | bufGainRamp
  /-- BUF_SOFT_CLIP (R163). -/
  | bufSoftClip
  /-- BUF_HARD_CLIP (R164). -/
  | bufHardClip
  /-- BUF_DC_REMOVE (R165). -/
  | bufDcRemove
  /-- BUF_FIND_PEAK (R166). -/
  | bufFindPeak
  /-- ENV_LOOKUP (R167). -/
  | envLookup
  /-- CONV_LOAD_IR (R176). -/
  | convLoadIr
  /-- CONV_PROCESS (R179). -/
  | convProcess
  /-- CONV_RESET (R183). -/
  | convReset
  /-- GRAN_LOAD_SOURCE (R196). -/
  | granLoadSource
  /-- GRAN_PROCESS (R198). -/
  | granProcess
  /-- GRAN_RESET (R205). -/
  | granReset
  /-- SPEC_PROCESS (R217). -/
  | specProcess
  /-- SPEC_RESET (R226). -/
  | specReset
deriving DecidableEq, Repr

end Sys2Proof
end

