-- ==== Sys2Proof/Decode.lean ====
section
/-! DEFINITION. The command word (30_encoding.md R85), its decoding (R86, R88) and its encoding. -/

namespace Sys2Proof

/-- OPC, bits 7:0 of a command word (R85). -/
def opcOf (w : Word) : BitVec 8 := w.extractLsb' 0 8

/-- RSV, bits 31:8 of a command word, which must be zero (R85). -/
def rsvOf (w : Word) : BitVec 24 := w.extractLsb' 8 24

/-- Group 0x00 of the opcode map (R88, R89): system and arena. -/
def systemRows : List (BitVec 8 × Instr) :=
  [(0x00#8, .nop), (0x01#8, .init), (0x02#8, .cleanup), (0x03#8, .getInputBuffer), (0x04#8, .getOutputBuffer)]

/-- Group 0x10: buffer primitives. -/
def bufferRows : List (BitVec 8 × Instr) :=
  [(0x10#8, .bufScale), (0x11#8, .bufAdd), (0x12#8, .bufMix), (0x13#8, .bufCopy), (0x14#8, .bufClear),
   (0x15#8, .bufInterleave), (0x16#8, .bufDeinterleave), (0x17#8, .bufGainRamp), (0x18#8, .bufSoftClip),
   (0x19#8, .bufHardClip), (0x1A#8, .bufDcRemove), (0x1B#8, .bufFindPeak), (0x1C#8, .envLookup)]

/-- Group 0x20: convolution. -/
def convolutionRows : List (BitVec 8 × Instr) :=
  [(0x20#8, .convLoadIr), (0x21#8, .convProcess), (0x22#8, .convReset)]

/-- Group 0x30: granular. -/
def granularRows : List (BitVec 8 × Instr) :=
  [(0x30#8, .granLoadSource), (0x31#8, .granProcess), (0x32#8, .granReset)]

/-- Group 0x40: spectral. -/
def spectralRows : List (BitVec 8 × Instr) :=
  [(0x40#8, .specProcess), (0x41#8, .specReset)]

/-- The opcode map of R88, row by row. -/
def opcodeMap : List (BitVec 8 × Instr) :=
  systemRows ++ bufferRows ++ convolutionRows ++ granularRows ++ spectralRows

/-- Why a word is no command (R86). -/
inductive DecodeError where
  /-- RSV is not zero. -/
  | reservedBits
  /-- OPC is not an opcode of R88. -/
  | unassignedOpcode
deriving DecidableEq, Repr

/-- The row of the opcode map with the given OPC. -/
def lookupOpcode (op : BitVec 8) : Option Instr := (opcodeMap.find? (fun row => row.1 == op)).map (·.2)

/-- Decoding is total: every word is one command or illegal (R86). -/
def decode (w : Word) : Except DecodeError Instr :=
  if rsvOf w = 0#24 then
    match lookupOpcode (opcOf w) with
    | some i => .ok i
    | none => .error .unassignedOpcode
  else .error .reservedBits

/-- OPC of a command (R88). -/
def opcodeOf : Instr → BitVec 8
  | .nop => 0x00#8
  | .init => 0x01#8
  | .cleanup => 0x02#8
  | .getInputBuffer => 0x03#8
  | .getOutputBuffer => 0x04#8
  | .bufScale => 0x10#8
  | .bufAdd => 0x11#8
  | .bufMix => 0x12#8
  | .bufCopy => 0x13#8
  | .bufClear => 0x14#8
  | .bufInterleave => 0x15#8
  | .bufDeinterleave => 0x16#8
  | .bufGainRamp => 0x17#8
  | .bufSoftClip => 0x18#8
  | .bufHardClip => 0x19#8
  | .bufDcRemove => 0x1A#8
  | .bufFindPeak => 0x1B#8
  | .envLookup => 0x1C#8
  | .convLoadIr => 0x20#8
  | .convProcess => 0x21#8
  | .convReset => 0x22#8
  | .granLoadSource => 0x30#8
  | .granProcess => 0x31#8
  | .granReset => 0x32#8
  | .specProcess => 0x40#8
  | .specReset => 0x41#8

/-- The command word of a command: RSV = 0, OPC (R85, R88). -/
def encode (i : Instr) : Word := 0#24 ++ opcodeOf i

/-- What the decoder reads from a table row's bits: the low `nbits` bits of `w`, the bits above them zero. -/
def decodeTableWord (nbits w : Nat) : Option Instr := (decode (BitVec.ofNat 32 (w % 2 ^ nbits))).toOption

end Sys2Proof
end

