-- ==== Sys2Proof/Config.lean ====
section
/-! DEFINITION. The implementation parameters of 00_scope.md R8, the constants of 40_numerics.md R122,
and the free values: what the spec leaves to the implementation or calls a draw. A free value is an
opaque constant without a body, so nothing can be proved of it. -/

namespace Sys2Proof.Config

/-! ### Fixed parameters (R8) -/

/-- `SR_MIN` = 8000.0. -/
def srMin : Word := 0x45FA0000#32
/-- `SR_MAX` = 192000.0. -/
def srMax : Word := 0x483B8000#32
/-- `BS_MIN`. -/
def bsMin : Nat := 32
/-- `BS_MAX`. -/
def bsMax : Nat := 1024
/-- `DEFAULT_SR` = 44100.0: what SAMPLE_RATE reads while the engine is not ready (R25). -/
def defaultSr : Word := 0x472C4400#32
/-- `DEFAULT_BS`: what BLOCK_SIZE reads while the engine is not ready (R26). -/
def defaultBs : Nat := 128
/-- `NCH`, the I/O channels: 0 = left, 1 = right. -/
def nCh : Nat := 2
/-- `NC`, the convolution FFT size. -/
def nc : Nat := 256
/-- `HC` = NC/2, the convolution sub-block. -/
def hc : Nat := 128
/-- `IR_CAP_WORDS`. -/
def irCapWords : Nat := 441000
/-- `MAX_IR_FRAMES`: 5 s at 44100 Hz, which gives `MAX_PARTITIONS`. -/
def maxIrFrames : Nat := 220500
/-- `MAX_PARTITIONS` (`PMAX`) = ceil(`MAX_IR_FRAMES` / `HC`). -/
def pMax : Nat := 1723
/-- `SRC_CAP_WORDS`. -/
def srcCapWords : Nat := 882000
/-- `GRAIN_POOL`. -/
def grainPool : Nat := 100
/-- `ENV_SIZE`. -/
def envSize : Nat := 1024
/-- `NS`, the spectral FFT size. -/
def ns : Nat := 2048
/-- `HS`, the spectral hop. -/
def hs : Nat := 512
/-- `KS` = NS/2 + 1, the spectral bins. -/
def ks : Nat := 1025
/-- `OUT_RING` = 2 NS. -/
def outRing : Nat := 4096
/-- `FREEZE_PHASE_K` = 0.9. -/
def freezePhaseK : Word := 0x3F666666#32
/-- `SHIFT_EPS` = 0.001. -/
def shiftEps : Word := 0x3A83126F#32
/-- `PAN_WIDTH` = 0.7. -/
def panWidth : Word := 0x3F333333#32
/-- `AMP_MIN` = 0.8. -/
def ampMin : Word := 0x3F4CCCCD#32
/-- `AMP_SPAN` = 0.2. -/
def ampSpan : Word := 0x3E4CCCCD#32
/-- `LCG_A`. -/
def lcgA : Word := 1664525#32
/-- `LCG_C`. -/
def lcgC : Word := 1013904223#32
/-- `LCG_SEED`. -/
def lcgSeed : Word := 12345#32
/-- `VEC_W`, the vector width of the primitives, which no result shows (40_numerics.md R112). -/
def vecW : Nat := 4
/-- `NULL_OFF`, the null view. -/
def nullOff : Word := 0xFFFFFFFF#32
/-- `HW_ID` (R31). -/
def hwId : Word := 0x52415331#32
/-- CAPS0 = NC, BS_MAX (R32). -/
def caps0 : Word := 0x01000400#32
/-- CAPS1 = GRAIN_POOL, PMAX (R32). -/
def caps1 : Word := 0x006406BB#32

/-! ### f32 constants (R122) -/

/-- `PI_F`. -/
def piF : Word := 0x40490FDB#32
/-- `TWO_PI_F`. -/
def twoPiF : Word := 0x40C90FDB#32
/-- `HOP_PHASE`, the binary32 nearest pi/2. -/
def hopPhase : Word := 0x3FC90FDB#32
/-- `INV_NC` = 2^-8. -/
def invNc : Word := 0x3B800000#32
/-- `SPEC_OUT_SCALE` = 2^-11: the literal 1/FFT_SIZE (R122, 90_conflicts.md C6). DESIGN CHOICE among
the spec's alternatives, declared in assumption 14. -/
def specOutScale : Word := 0x3A000000#32

/-! ### The configuration (R9)

`COS`, `SIN`, `ATAN2`, `EXP2`, `FFT_IMPL`, `IFFT_IMPL` are total functions a model takes as an argument.
The argument is the plain-data field `State.numerics`, which no step writes (assumption 4). -/

/-- Which configuration the core is built with. -/
inductive Numerics where
  /-- The spec's default: correctly rounded transcendentals (R115) and `REF_FFT` (R118). -/
  | reference
  /-- Any other implementation: the free functions below, held to the properties that R115 states. -/
  | implementation
deriving DecidableEq, Repr

/-! ### Free values -/

/-- `COS` of an implementation (R115), and COS at the operands for which the spec states no value. -/
opaque cos : Word → Word
/-- `SIN` of an implementation (R115), and SIN at the operands for which the spec states no value. -/
opaque sin : Word → Word
/-- `ATAN2 y x` of an implementation (R115), and ATAN2 at NaN operands. -/
opaque atan2 : Word → Word → Word
/-- `EXP2` of an implementation (R115), and EXP2 at NaN operands. -/
opaque exp2 : Word → Word
/-- `FFT_IMPL` (R120): size, input, and the index of the result wanted. -/
opaque fft : Nat → List C32 → Nat → C32
/-- `IFFT_IMPL` (R120): size, input, and the index of the result wanted. -/
opaque ifft : Nat → List C32 → Nat → C32
/-- The n-th draw from the quiet NaNs (R107): the sign in bit 22, the payload in bits 21:0. -/
opaque nanDraw : Nat → BitVec 23
/-- The byte that SRC and IR hold at an address after the given number of power-on resets, before the
host writes it (R78). -/
opaque unwrittenByte : Nat → Nat → Byte

end Sys2Proof.Config
end

