-- ==== Sys2Proof/Machine/HostEvent.lean ====
section
/-! DEFINITION. What the outside world can do to the core: the host's moves (20_memory.md R66, R67, R72) and
the reset input (70_reset_and_hazards.md R260). DESIGN CHOICE: the host's program stands in the state as the
list of its moves still to come (assumption 1). -/

namespace Sys2Proof.Machine

/-- The two host-visible address spaces (20_memory.md R60). -/
inductive HostSpace where
  /-- The register space. -/
  | register
  /-- The arena. -/
  | arena
deriving DecidableEq, Repr

/-- One event from outside the core. An offset is a byte offset in its space. -/
inductive HostEvent where
  /-- `RegRead(off)`, an aligned 32-bit register read (R67). -/
  | regRead (off : Word)
  /-- `RegWrite(off, w)`, an aligned 32-bit register write (R67). -/
  | regWrite (off w : Word)
  /-- `ArenaRead(off)`, an aligned 32-bit arena read (R66). -/
  | arenaRead (off : Word)
  /-- `ArenaWrite(off, w)`, an aligned 32-bit arena write (R66). -/
  | arenaWrite (off w : Word)
  /-- An access whose width is not 32 bits, to either space: it has no meaning in the spec (R66, R67). -/
  | otherWidth (space : HostSpace) (off : Word) (bits : Nat)
  /-- The reset input is asserted (R260, R262). -/
  | powerOn
deriving DecidableEq, Repr

end Sys2Proof.Machine
end

