-- ==== Sys2Proof/Machine/State.lean ====
section
/-! DEFINITION. The state of the core (10_state.md, 20_memory.md R60 to R63), the reasons a step can stop, and
the state after power-on reset (70_reset_and_hazards.md R261). -/

namespace Sys2Proof.Machine

/-- The result codes of STATUS.RC (60_exceptions.md R240). Codes 0x08 to 0xFF are never written. -/
inductive ResultCode where
  /-- 0x00: the command completed. -/
  | ok
  /-- 0x01: INIT's sample rate is NaN or out of range. -/
  | badRate
  /-- 0x02: INIT's block size is out of range. -/
  | badBlock
  /-- 0x03: the command requires `ready = 1`. -/
  | notInit
  /-- 0x04: a channel argument that is not 0 or 1. -/
  | badChannel
  /-- 0x05: a channel count that is not 1 or 2. -/
  | badChannelCount
  /-- 0x06: an invalid or forbidden span. -/
  | badSpan
  /-- 0x07: not a command word. -/
  | illegalCmd
deriving DecidableEq, Repr

/-- Why the machine stops with a fault. The core itself has no traps (60_exceptions.md R247). -/
inductive Fault where
  /-- The core would access an arena offset that does not exist (20_memory.md R63). Raised by CONV_PROCESS,
  GRAN_PROCESS and SPEC_PROCESS when `block_size` words, or the recorded source frames, do not fit their
  region. The invariants of 10_state.md R37 and 44_granular.md R196 exclude it from every state that a run
  reaches. Safe: the model stops. -/
  | undecoded (off : Nat)
deriving DecidableEq, Repr

/-- Why the machine refuses a step. -/
inductive Refusal where
  /-- An instruction without a meaning yet. Raised by no arm of `exec`. Safe. -/
  | notModelled (mnemonic : String)
  /-- A host access at an offset that is not a multiple of 4 (20_memory.md R66, R67). Raised by the step, for
  the host's move. Safe: the spec says a model refuses it. -/
  | hostMisaligned (off : Word)
  /-- A host access at an offset that is not decoded (R66) or is beyond the register space (R67). Raised by
  the step, for the host's move. Safe: the spec says a model refuses it. -/
  | hostUndecoded (off : Word)
  /-- A host access that is not 32 bits wide (R66, R67). Raised by the step, for the host's move. Safe: the
  spec says a model refuses it. -/
  | hostWidth (bits : Nat)
deriving DecidableEq, Repr

/-- A spectrum: NC complex values (10_state.md R38). -/
abbrev Spectrum := List C32

/-- The convolution state of one channel (10_state.md R38). -/
structure ConvChan where
  /-- `fdl[c]`: the live slots s < conv_P (R39). Every other slot is zero by rule (assumption 10). -/
  fdl : List Spectrum
  /-- `conv_in[c]`: HC words. -/
  input : List Word
  /-- `conv_tail[c]`: NC words. -/
  tail : List Word
deriving DecidableEq, Repr

/-- The convolution engine (10_state.md R38). -/
structure Conv where
  /-- `conv_P`. -/
  parts : Nat
  /-- `ir_spec`: the partitions p < conv_P. Every other partition is zero by rule (assumption 10). -/
  irSpec : List Spectrum
  /-- Channel 0. -/
  left : ConvChan
  /-- Channel 1. -/
  right : ConvChan
  /-- `conv_fill`. -/
  fill : Nat
  /-- `conv_pos`. -/
  pos : Nat
deriving DecidableEq, Repr

/-- One grain (10_state.md R40). -/
structure Grain where
  active : Bool
  pos : Word
  phase : Word
  rate : Word
  amp : Word
  dur : Nat
  pan : Word
deriving DecidableEq, Repr

/-- The granular engine (10_state.md R40). -/
structure Gran where
  /-- The pool, GRAIN_POOL records. -/
  grains : List Grain
  /-- `gran_acc`, f32. -/
  acc : Word
  /-- `rng`, visible as RNG_STATE (R30). -/
  rng : Word
  /-- `src_frames`. -/
  srcFrames : Nat
  /-- `src_channels`. -/
  srcChannels : Nat
deriving DecidableEq, Repr

/-- The spectral state of one channel (10_state.md R42). -/
structure SpecChan where
  /-- `spec_in[c]`: NS words. -/
  inBuf : List Word
  /-- `spec_out[c]`: OUT_RING words. -/
  outRing : List Word
  /-- `prev_phase[c]`: KS words. -/
  prevPhase : List Word
  /-- `synth_phase[c]`: KS words. -/
  synthPhase : List Word
  /-- `frozen_mag[c]`: KS words. -/
  frozenMag : List Word
  /-- `frozen_phase[c]`: KS words. -/
  frozenPhase : List Word
  /-- `frozen[c]`. -/
  frozen : Bool
deriving DecidableEq, Repr

/-- The spectral engine (10_state.md R42). -/
structure Spec where
  /-- Channel 0. -/
  left : SpecChan
  /-- Channel 1. -/
  right : SpecChan
  /-- `spec_fill`. -/
  fill : Nat
deriving DecidableEq, Repr

/-- The arena: (offset, byte) pairs in the canonical form of `Arena.wf`. -/
abbrev Arena := List Host.Cell

/-- The state of the machine. The last five fields are the model's own, not the spec's. -/
structure State where
  /-- CMD (R21). -/
  cmd : Word
  /-- ARG0 (R23). -/
  arg0 : Word
  /-- ARG1 (R23). -/
  arg1 : Word
  /-- ARG2 (R23). -/
  arg2 : Word
  /-- ARG3 (R23). -/
  arg3 : Word
  /-- ARG4 (R23). -/
  arg4 : Word
  /-- STATUS.RC (R22). -/
  rc : ResultCode
  /-- STATUS.TRUNC (R22). -/
  trunc : Bool
  /-- RESULT0 (R24). -/
  result0 : Word
  /-- RESULT1 (R24). -/
  result1 : Word
  /-- `sample_rate`, f32 (R36). -/
  sampleRate : Word
  /-- `block_size`, u32 (R36). -/
  blockSize : Nat
  /-- `ready` (R36). -/
  ready : Bool
  /-- `ir_loaded` (R36). -/
  irLoaded : Bool
  /-- `src_loaded` (R36). -/
  srcLoaded : Bool
  /-- The convolution engine (R38). -/
  conv : Conv
  /-- The granular engine (R40). -/
  gran : Gran
  /-- The spectral engine (R42). -/
  spec : Spec
  /-- The arena (20_memory.md R60, R63). -/
  arena : Arena
  /-- MODEL: the outside events still to come, in program order (assumption 1). -/
  pending : List HostEvent
  /-- MODEL: the words the host's reads returned, newest first (assumption 3). -/
  seen : List Word
  /-- MODEL: how many quiet-NaN patterns have been drawn (assumption 8). -/
  nanDraws : Nat
  /-- MODEL: how many times the reset input was asserted since the first power-on (assumption 9). -/
  powerCycles : Nat
  /-- MODEL: the configuration the core is built with (R9, assumption 4). No step writes it. -/
  numerics : Config.Numerics
deriving DecidableEq, Repr

/-- A grain with every field zero (R40). -/
def Grain.zero : Grain :=
  { active := false, pos := 0#32, phase := 0#32, rate := 0#32, amp := 0#32, dur := 0, pan := 0#32 }

/-- A channel of the convolution engine after reset (R38). -/
def ConvChan.zero : ConvChan :=
  { fdl := [], input := List.replicate Config.hc 0#32, tail := List.replicate Config.nc 0#32 }

/-- The convolution engine after reset (R38). -/
def Conv.zero : Conv :=
  { parts := 0, irSpec := [], left := ConvChan.zero, right := ConvChan.zero, fill := 0, pos := 0 }

/-- The granular engine after reset (R40). -/
def Gran.zero : Gran :=
  { grains := List.replicate Config.grainPool Grain.zero, acc := 0#32, rng := Config.lcgSeed, srcFrames := 0,
    srcChannels := 0 }

/-- A channel of the spectral engine after reset (R42). -/
def SpecChan.zero : SpecChan :=
  { inBuf := List.replicate Config.ns 0#32, outRing := List.replicate Config.outRing 0#32,
    prevPhase := List.replicate Config.ks 0#32, synthPhase := List.replicate Config.ks 0#32,
    frozenMag := List.replicate Config.ks 0#32, frozenPhase := List.replicate Config.ks 0#32, frozen := false }

/-- The spectral engine after reset (R42), which is also `spec_clear()` (45_spectral.md R216). -/
def Spec.zero : Spec :=
  { left := SpecChan.zero, right := SpecChan.zero, fill := 0 }

/-- The machine right after power-on reset (70_reset_and_hazards.md R261, R262). The arena lists nothing:
IN_L to WORK read 0, SRC and IR read their draws (20_memory.md R78). -/
def State.reset : State :=
  { cmd := 0#32, arg0 := 0#32, arg1 := 0#32, arg2 := 0#32, arg3 := 0#32, arg4 := 0#32, rc := .ok, trunc := false,
    result0 := 0#32, result1 := 0#32, sampleRate := 0#32, blockSize := 0, ready := false, irLoaded := false,
    srcLoaded := false, conv := Conv.zero, gran := Gran.zero, spec := Spec.zero, arena := [], pending := [], seen := [],
    nanDraws := 0, powerCycles := 0, numerics := .reference }

end Sys2Proof.Machine
end

