-- ==== Sys2Proof/Machine/Flags.lean ====
section
/-! DEFINITION. The flags of the core are the STATUS fields (10_state.md R22, R35): the result codes' values
(60_exceptions.md R240) and the STATUS word. There is no arithmetic condition code. -/

namespace Sys2Proof.Machine

/-- The value of a result code in STATUS.RC (R240). -/
def ResultCode.byte : ResultCode → BitVec 8
  | .ok => 0x00#8
  | .badRate => 0x01#8
  | .badBlock => 0x02#8
  | .notInit => 0x03#8
  | .badChannel => 0x04#8
  | .badChannelCount => 0x05#8
  | .badSpan => 0x06#8
  | .illegalCmd => 0x07#8

/-- A flag as one bit. -/
def flagBit (b : Bool) : BitVec 1 := BitVec.ofBool b

/-- The STATUS word (R22), most significant field first: reserved 31:15, TRUNC 14, FROZEN_R 13, FROZEN_L 12,
SRC_LOADED 11, IR_LOADED 10, READY 9, BUSY 8 (reads 0, assumption 13), RC 7:0. -/
def State.status (s : State) : Word :=
  0#17 ++ (flagBit s.trunc ++ (flagBit s.spec.right.frozen ++ (flagBit s.spec.left.frozen ++ (flagBit s.srcLoaded ++
    (flagBit s.irLoaded ++ (flagBit s.ready ++ (0#1 ++ s.rc.byte)))))))

end Sys2Proof.Machine
end

