-- ==== Sys2Proof/Machine/Arena.lean ====
section
/-! DEFINITION. The arena (20_memory.md): its regions (R63), its bytes, its little-endian words (R61) and its
canonical form. An access names the number `p` of power-on resets, which picks the reset contents of SRC
and IR (R78). -/

namespace Sys2Proof.Machine

/-- A region of the arena map: base offset and capacity in words (R63). -/
structure Region where
  base : Nat
  words : Nat
deriving DecidableEq, Repr

/-- The end of a region, exclusive. -/
def Region.stop (r : Region) : Nat := r.base + 4 * r.words

/-- IN_L. -/
def regionInL : Region := ⟨0x00000000, 1024⟩
/-- IN_R. -/
def regionInR : Region := ⟨0x00001000, 1024⟩
/-- OUT_L. -/
def regionOutL : Region := ⟨0x00002000, 1024⟩
/-- OUT_R. -/
def regionOutR : Region := ⟨0x00003000, 1024⟩
/-- WORK. -/
def regionWork : Region := ⟨0x00004000, 4096⟩
/-- SRC. -/
def regionSrc : Region := ⟨0x00008000, Config.srcCapWords⟩
/-- IR. -/
def regionIr : Region := ⟨0x00366000, Config.irCapWords⟩

/-- The seven regions (R63). -/
def regions : List Region := [regionInL, regionInR, regionOutL, regionOutR, regionWork, regionSrc, regionIr]

/-- An offset is decoded: it lies inside a region (R63). -/
def decoded (off : Nat) : Bool := regions.any (fun r => decide (r.base ≤ off) && decide (off < r.stop))

/-- The end of the input, output and work regions, which reset and INIT zero (R78, 41_system.md R139). -/
def ioEnd : Nat := 0x00008000

/-! ### Bytes -/

/-- What an unlisted offset holds: 0 in IN_L to WORK, and no written byte in SRC and IR (R78). -/
def Arena.unlisted (a : Nat) : Option Byte := if a < ioEnd then some 0#8 else none

/-- The listed byte at an offset. -/
def Arena.lookup : Arena → Nat → Option Byte
  | [], _ => none
  | c :: m, a => if c.1 = a then some c.2 else Arena.lookup m a

/-- The byte at an offset: the listed one, else the reset contents, which are a free value in SRC and IR. -/
def Arena.byte (p : Nat) (m : Arena) (a : Nat) : Byte :=
  match Arena.lookup m a with
  | some b => b
  | none => (Arena.unlisted a).getD (Config.unwrittenByte p a)

/-- The list with the entry of an offset set, in rising order. -/
def Arena.insert (a : Nat) (b : Byte) : Arena → Arena
  | [] => [(a, b)]
  | c :: m => if a < c.1 then (a, b) :: c :: m else if a = c.1 then (a, b) :: m else c :: Arena.insert a b m

/-- The list without the entry of an offset. -/
def Arena.erase (a : Nat) (m : Arena) : Arena := m.filter (fun c => c.1 != a)

/-- Write one byte. Writing what an unlisted offset holds removes the entry, so the form stays canonical. -/
def Arena.writeByte (m : Arena) (a : Nat) (b : Byte) : Arena :=
  if Arena.unlisted a = some b then Arena.erase a m else Arena.insert a b m

/-! ### Words, little-endian (R61) -/

/-- `MemRead(off, 4)` (00_scope.md R12). -/
def Arena.word (p : Nat) (m : Arena) (off : Nat) : Word :=
  Arena.byte p m (off + 3) ++ (Arena.byte p m (off + 2) ++ (Arena.byte p m (off + 1) ++ Arena.byte p m off))

/-- `MemWrite(off, 4, w)` (00_scope.md R12). -/
def Arena.writeWord (m : Arena) (off : Nat) (w : Word) : Arena :=
  Arena.writeByte (Arena.writeByte (Arena.writeByte (Arena.writeByte m off (w.extractLsb' 0 8)) (off + 1)
    (w.extractLsb' 8 8)) (off + 2) (w.extractLsb' 16 8)) (off + 3) (w.extractLsb' 24 8)

/-- The words of `Span(off, n)` (00_scope.md R12). -/
def Arena.words (p : Nat) (m : Arena) (off n : Nat) : List Word :=
  (List.range n).map (fun i => Arena.word p m (off + 4 * i))

/-- Write consecutive words from an offset up. -/
def Arena.writeWords (m : Arena) (off : Nat) : List Word → Arena
  | [] => m
  | w :: ws => Arena.writeWords (Arena.writeWord m off w) (off + 4) ws

/-- Zero every word of IN_L, IN_R, OUT_L, OUT_R and WORK (41_system.md R139). They lie together below `ioEnd`,
and a zero byte there is an unlisted one. -/
def Arena.clearIo (m : Arena) : Arena := m.filter (fun c => decide (ioEnd ≤ c.1))

/-! ### The canonical form -/

/-- Offsets rise strictly from a lower bound on. -/
def Arena.risingFrom : Nat → Arena → Bool
  | _, [] => true
  | lo, c :: m => decide (lo ≤ c.1) && Arena.risingFrom (c.1 + 1) m

/-- The canonical form: offsets strictly rising, each decoded, and no entry equal to what an unlisted offset
holds. -/
def Arena.wf (m : Arena) : Bool :=
  Arena.risingFrom 0 m && m.all (fun c => decoded c.1 && decide (Arena.unlisted c.1 ≠ some c.2))

end Sys2Proof.Machine
end

