-- ==== Sys2Proof/Machine/F32.lean ====
section
/-! DEFINITION. IEEE 754 binary32 arithmetic on bit patterns (40_numerics.md R105 to R114, R116, R126, R128).

Every finite binary32 value is an integer multiple of 2^-149, so an operation computes exactly in
integers and rounds once, to nearest with ties to even. Subnormals are honoured (R106). A NaN result is
the pattern `F32.nan`, which means "a quiet NaN still to be drawn": every store of a computed value goes
through `F32.settle`, which draws its pattern (R107, assumption 8). -/

namespace Sys2Proof.Machine

/-! ### Patterns (30_encoding.md R92) -/

/-- The sign, bit 31. -/
def F32.sign (w : Word) : Bool := w.getLsbD 31

/-- The biased exponent, bits 30:23. -/
def F32.expo (w : Word) : Nat := (w.extractLsb' 23 8).toNat

/-- The fraction, bits 22:0. -/
def F32.frac (w : Word) : Nat := (w.extractLsb' 0 23).toNat

/-- The pattern denotes a NaN. -/
def F32.isNaN (w : Word) : Bool := F32.expo w == 255 && F32.frac w != 0

/-- The pattern denotes an infinity. -/
def F32.isInf (w : Word) : Bool := F32.expo w == 255 && F32.frac w == 0

/-- The pattern denotes a finite value. -/
def F32.isFinite (w : Word) : Bool := F32.expo w != 255

/-- The magnitude in units of 2^-149, exact for a finite value. An infinity counts as 2^128, which is above
every finite magnitude. -/
def F32.mag (w : Word) : Nat :=
  if F32.expo w = 0 then F32.frac w else (2 ^ 23 + F32.frac w) * 2 ^ (F32.expo w - 1)

/-- The value in units of 2^-149. -/
def F32.val (w : Word) : Int := if F32.sign w then - (F32.mag w : Int) else (F32.mag w : Int)

/-- +0.0. -/
def F32.zero : Word := 0x00000000#32
/-- -0.0. -/
def F32.negZero : Word := 0x80000000#32
/-- 1.0. -/
def F32.one : Word := 0x3F800000#32
/-- +infinity. -/
def F32.inf : Word := 0x7F800000#32
/-- A quiet NaN whose pattern is still to be drawn (R107). -/
def F32.nan : Word := 0x7FC00000#32

/-- 2^-149 is one unit: 1.0 is this many units. -/
def F32.unitsPerOne : Nat := 2 ^ 149

/-- A pattern from a sign and the 31 bits below it. -/
def F32.pack (neg : Bool) (bits : Nat) : Word := BitVec.ofNat 32 (if neg then 2 ^ 31 + bits else bits)

/-! ### Rounding (R105) -/

/-- `num / den` rounded to the nearest integer, ties to even. -/
def F32.roundNearest (num den : Nat) : Nat :=
  let q := num / den
  let r := num % den
  if 2 * r < den then q else if den < 2 * r then q + 1 else q + q % 2

/-- The low 31 bits of the binary32 nearest `num / den` units of 2^-149, ties to even. The magnitude bits of
binary32 count up by one from each value to the next, so a carry out of the fraction is the next exponent
and a value beyond the largest finite one is infinity. -/
def F32.roundBits (num den : Nat) : Nat :=
  let k := Nat.log2 (num / den) - 23
  min (F32.roundNearest num (den * 2 ^ k) + k * 2 ^ 23) 0x7F800000

/-- `f32(n)` for an integer n (R113). -/
def F32.ofNat (n : Nat) : Word := F32.pack false (F32.roundBits (n * F32.unitsPerOne) 1)

/-! ### Comparison (R107): false with a NaN operand, and -0.0 equals +0.0 -/

/-- `a < b`. -/
def F32.lt (a b : Word) : Bool := !F32.isNaN a && !F32.isNaN b && decide (F32.val a < F32.val b)

/-- `a <= b`. -/
def F32.le (a b : Word) : Bool := !F32.isNaN a && !F32.isNaN b && decide (F32.val a ≤ F32.val b)

/-- `a == b`. -/
def F32.eq (a b : Word) : Bool := !F32.isNaN a && !F32.isNaN b && decide (F32.val a = F32.val b)

/-! ### Sign operations, exact on every pattern -/

/-- Sign flip. -/
def F32.neg (a : Word) : Word := a ^^^ 0x80000000#32

/-- `|a|`: the sign bit cleared (00_scope.md R13). -/
def F32.abs (a : Word) : Word := a &&& 0x7FFFFFFF#32

/-! ### The rounded operations (R105, R108) -/

/-- `a + b`. An exact zero sum is +0.0 unless both operands are -0.0. -/
def F32.add (a b : Word) : Word :=
  if F32.isNaN a || F32.isNaN b then F32.nan
  else if F32.isInf a then
    if F32.isInf b && (F32.sign a != F32.sign b) then F32.nan else a
  else if F32.isInf b then b
  else
    let v := F32.val a + F32.val b
    if v = 0 then (if F32.sign a && F32.sign b then F32.negZero else F32.zero)
    else F32.pack (decide (v < 0)) (F32.roundBits v.natAbs 1)

/-- `a - b`. -/
def F32.sub (a b : Word) : Word := F32.add a (F32.neg b)

/-- `a * b`. -/
def F32.mul (a b : Word) : Word :=
  let neg := F32.sign a != F32.sign b
  if F32.isNaN a || F32.isNaN b then F32.nan
  else if F32.isInf a || F32.isInf b then
    if F32.mag a = 0 || F32.mag b = 0 then F32.nan else F32.pack neg 0x7F800000
  else F32.pack neg (F32.roundBits (F32.mag a * F32.mag b) F32.unitsPerOne)

/-- `a / b`. -/
def F32.div (a b : Word) : Word :=
  let neg := F32.sign a != F32.sign b
  if F32.isNaN a || F32.isNaN b then F32.nan
  else if F32.isInf a then (if F32.isInf b then F32.nan else F32.pack neg 0x7F800000)
  else if F32.isInf b then F32.pack neg 0
  else if F32.mag b = 0 then (if F32.mag a = 0 then F32.nan else F32.pack neg 0x7F800000)
  else F32.pack neg (F32.roundBits (F32.mag a * F32.unitsPerOne) (F32.mag b))

/-- The integer square root of `n`, one bit at a time from bit `bits - 1` down, added to the root `r` so far. -/
def F32.isqrtFrom (n : Nat) : Nat → Nat → Nat
  | 0, r => r
  | b + 1, r => F32.isqrtFrom n b (if (r + 2 ^ b) * (r + 2 ^ b) ≤ n then r + 2 ^ b else r)

/-- The integer square root of a number below 2^80. -/
def F32.isqrt (n : Nat) : Nat := F32.isqrtFrom n 40 0

/-- `sqrt(a)`. For a = f 2^(E-150) the root is sqrt(f 2^(E+148)) units. The root of f, or of 2f when E is
odd, is taken with 26 more bits and a sticky bit, so one rounding gives the nearest value. -/
def F32.sqrt (a : Word) : Word :=
  if F32.isNaN a then F32.nan
  else if F32.mag a = 0 then a
  else if F32.sign a then F32.nan
  else if F32.isInf a then a
  else
    let e := max (F32.expo a) 1
    let f := if F32.expo a = 0 then F32.frac a else 2 ^ 23 + F32.frac a
    let n := f * 2 ^ (e % 2) * 2 ^ 52
    let r := F32.isqrt n
    let sticky := if r * r = n then 0 else 1
    F32.pack false (F32.roundBits ((2 * r + sticky) * 2 ^ ((e + 148) / 2)) (2 ^ 27))

/-! ### Conversions (R113) -/

/-- `floorf(a)`. Exact. Zeros, infinities and NaNs return themselves. -/
def F32.floor (a : Word) : Word :=
  if !F32.isFinite a || F32.mag a = 0 then a
  else if F32.sign a then
    F32.pack true (F32.roundBits ((F32.mag a + (F32.unitsPerOne - 1)) / F32.unitsPerOne * F32.unitsPerOne) 1)
  else F32.pack false (F32.roundBits (F32.mag a / F32.unitsPerOne * F32.unitsPerOne) 1)

/-- `toIndex(a)`: the integer floor of a finite a >= 0. -/
def F32.toIndex (a : Word) : Nat := F32.mag a / F32.unitsPerOne

/-! ### Composite operations -/

/-- `clampP(x, lo, hi, nv)` (R109). -/
def F32.clampP (x lo hi nv : Word) : Word :=
  if F32.isNaN x then nv else if F32.lt x lo then lo else if F32.lt hi x then hi else x

/-- `lerp(a, b, t)` (R114). -/
def F32.lerp (a b t : Word) : Word := F32.add (F32.mul a (F32.sub F32.one t)) (F32.mul b t)

/-- `wrapPi(x)` (R126). -/
def F32.wrapPi (x : Word) : Word :=
  F32.sub x (F32.mul Config.twoPiF (F32.floor (F32.div (F32.add x Config.piF) Config.twoPiF)))

/-! ### Complex operations (R116) -/

/-- `czero`. -/
def C32.zero : C32 := ⟨F32.zero, F32.zero⟩

/-- `cadd`. -/
def C32.add (x y : C32) : C32 := ⟨F32.add x.re y.re, F32.add x.im y.im⟩

/-- `csub`. -/
def C32.sub (x y : C32) : C32 := ⟨F32.sub x.re y.re, F32.sub x.im y.im⟩

/-- `cmul`. -/
def C32.mul (x y : C32) : C32 :=
  ⟨F32.sub (F32.mul x.re y.re) (F32.mul x.im y.im), F32.add (F32.mul x.re y.im) (F32.mul x.im y.re)⟩

/-- `conj`. -/
def C32.conj (x : C32) : C32 := ⟨x.re, F32.neg x.im⟩

/-- `cplx(x)`: a real value entering a transform (R121). -/
def C32.ofReal (x : Word) : C32 := ⟨x, F32.zero⟩

/-! ### Drawing the pattern of a NaN (R107) -/

/-- The n-th drawn quiet NaN: any sign, exponent 255, the quiet bit, any payload. -/
def F32.drawNaN (n : Nat) : Word :=
  (Config.nanDraw n).extractLsb' 22 1 ++ (0x1FF#9 ++ (Config.nanDraw n).extractLsb' 0 22)

/-- A computed value as it is stored: a NaN gets the n-th drawn pattern. -/
def F32.settle (n : Nat) (w : Word) : Word := if F32.isNaN w then F32.drawNaN n else w

/-- Computed values as they are stored, one draw index each, from n on. -/
def F32.settleList (n : Nat) : List Word → List Word
  | [] => []
  | w :: ws => F32.settle n w :: F32.settleList (n + 1) ws

/-- Computed complex values as they are stored, two draw indices each, from n on. -/
def C32.settleList (n : Nat) : List C32 → List C32
  | [] => []
  | z :: zs => ⟨F32.settle n z.re, F32.settle (n + 1) z.im⟩ :: C32.settleList (n + 2) zs

/-- The list of `f 0` to `f (n - 1)`: an array of the rules, written index by index. -/
def tabulate {α : Type} (n : Nat) (f : Nat → α) : List α := (List.range n).map f

end Sys2Proof.Machine
end

