-- ==== Sys2Proof/Machine/Tables.lean ====
section
/-! DEFINITION. The constant tables of the core (10_state.md R43): the Hann window (40_numerics.md R123), the
raised-cosine envelope (R124) and the twiddle factors (R119), each entry the binary32 nearest the exact
real value.

Two tables of words stand below: the first half of the window, n in 0..1024, and the first quarter of the
cosine, q in 0..512. The rest follows by the symmetries of the cosine, which are exact on rounded values.
DEDUCED: the words were computed in integer arithmetic of 400 bits, none near a tie (assumption 7). -/

namespace Sys2Proof.Machine

/-! ### RN(0.5 - 0.5 cos(2 pi n / 2048)) for n in 0..1024 -/

/-- RN(0.5 - 0.5 cos(2 pi n / 2048)), entries 0 to 63. -/
def hannPart0 : List Nat :=
  [0x00000000, 0x361DE9DE, 0x371DE9C6, 0x37B1A6D1, 0x381DE964, 0x3876BC3B, 0x38B1A5DA, 0x38F1CBC8,
   0x391DE7DF, 0x3947D8C7, 0x3976B884, 0x3995437B, 0x39B1A200, 0x39D077BF, 0x39F1C4A5, 0x3A0AC44E,
   0x3A1DE1C8, 0x3A323AB5, 0x3A47CF07, 0x3A5E9EB2, 0x3A76A9A7, 0x3A87F7EC, 0x3A95389A, 0x3AA316D6,
   0x3AB19298, 0x3AC0ABD6, 0x3AD06287, 0x3AE0B6A1, 0x3AF1A81A, 0x3B019B74, 0x3B0AB180, 0x3B14162C,
   0x3B1DC971, 0x3B27CB49, 0x3B321BAF, 0x3B3CBA9D, 0x3B47A80A, 0x3B52E3F2, 0x3B5E6E4C, 0x3B6A4712,
   0x3B766E3C, 0x3B8171E2, 0x3B87D3D0, 0x3B8E5CE5, 0x3B950D1D, 0x3B9BE473, 0x3BA2E2E3, 0x3BAA086A,
   0x3BB15502, 0x3BB8C8A7, 0x3BC06355, 0x3BC82506, 0x3BD00DB6, 0x3BD81D61, 0x3BE05401, 0x3BE8B190,
   0x3BF1360B, 0x3BF9E16B, 0x3C0159D6, 0x3C05D664, 0x3C0A665C, 0x3C0F09BD, 0x3C13C082, 0x3C188AA9]

/-- RN(0.5 - 0.5 cos(2 pi n / 2048)), entries 64 to 127. -/
def hannPart1 : List Nat :=
  [0x3C1D6830, 0x3C225913, 0x3C275D4F, 0x3C2C74E0, 0x3C319FC5, 0x3C36DDF9, 0x3C3C2F7A, 0x3C419444,
   0x3C470C54, 0x3C4C97A6, 0x3C523637, 0x3C57E804, 0x3C5DAD09, 0x3C638542, 0x3C6970AC, 0x3C6F6F43,
   0x3C758104, 0x3C7BA5EB, 0x3C80EEFA, 0x3C84148D, 0x3C8743AE, 0x3C8A7C5A, 0x3C8DBE8F, 0x3C910A4B,
   0x3C945F8C, 0x3C97BE51, 0x3C9B2696, 0x3C9E985A, 0x3CA2139C, 0x3CA59857, 0x3CA9268C, 0x3CACBE36,
   0x3CB05F55, 0x3CB409E5, 0x3CB7BDE5, 0x3CBB7B52, 0x3CBF422A, 0x3CC3126B, 0x3CC6EC12, 0x3CCACF1D,
   0x3CCEBB8A, 0x3CD2B155, 0x3CD6B07E, 0x3CDAB900, 0x3CDECADA, 0x3CE2E60A, 0x3CE70A8C, 0x3CEB385E,
   0x3CEF6F7E, 0x3CF3AFE8, 0x3CF7F99B, 0x3CFC4C93, 0x3D005467, 0x3D028725, 0x3D04BE82, 0x3D06FA7C,
   0x3D093B12, 0x3D0B8043, 0x3D0DCA0D, 0x3D10186F, 0x3D126B67, 0x3D14C2F5, 0x3D171F16, 0x3D197FC9]

/-- RN(0.5 - 0.5 cos(2 pi n / 2048)), entries 128 to 191. -/
def hannPart2 : List Nat :=
  [0x3D1BE50C, 0x3D1E4EDF, 0x3D20BD3F, 0x3D23302C, 0x3D25A7A3, 0x3D2823A3, 0x3D2AA42B, 0x3D2D2939,
   0x3D2FB2CC, 0x3D3240E1, 0x3D34D378, 0x3D376A8E, 0x3D3A0623, 0x3D3CA634, 0x3D3F4AC0, 0x3D41F3C6,
   0x3D44A143, 0x3D475336, 0x3D4A099E, 0x3D4CC478, 0x3D4F83C3, 0x3D52477D, 0x3D550FA6, 0x3D57DC3A,
   0x3D5AAD38, 0x3D5D829E, 0x3D605C6B, 0x3D633A9E, 0x3D661D33, 0x3D69042A, 0x3D6BEF80, 0x3D6EDF34,
   0x3D71D344, 0x3D74CBAE, 0x3D77C870, 0x3D7AC989, 0x3D7DCEF6, 0x3D806C5B, 0x3D81F364, 0x3D837C94,
   0x3D8507EA, 0x3D869567, 0x3D882507, 0x3D89B6CC, 0x3D8B4AB3, 0x3D8CE0BC, 0x3D8E78E6, 0x3D90132F,
   0x3D91AF97, 0x3D934E1D, 0x3D94EEC0, 0x3D96917F, 0x3D983658, 0x3D99DD4B, 0x3D9B8657, 0x3D9D317B,
   0x3D9EDEB5, 0x3DA08E05, 0x3DA23F69, 0x3DA3F2E2, 0x3DA5A86C, 0x3DA76008, 0x3DA919B5, 0x3DAAD571]

/-- RN(0.5 - 0.5 cos(2 pi n / 2048)), entries 192 to 255. -/
def hannPart3 : List Nat :=
  [0x3DAC933B, 0x3DAE5312, 0x3DB014F6, 0x3DB1D8E4, 0x3DB39EDD, 0x3DB566DE, 0x3DB730E7, 0x3DB8FCF7,
   0x3DBACB0C, 0x3DBC9B26, 0x3DBE6D43, 0x3DC04162, 0x3DC21782, 0x3DC3EFA2, 0x3DC5C9C1, 0x3DC7A5DE,
   0x3DC983F7, 0x3DCB640B, 0x3DCD461A, 0x3DCF2A22, 0x3DD11021, 0x3DD2F818, 0x3DD4E203, 0x3DD6CDE4,
   0x3DD8BBB7, 0x3DDAAB7C, 0x3DDC9D32, 0x3DDE90D8, 0x3DE0866C, 0x3DE27DED, 0x3DE4775A, 0x3DE672B1,
   0x3DE86FF3, 0x3DEA6F1C, 0x3DEC702D, 0x3DEE7323, 0x3DF077FE, 0x3DF27EBC, 0x3DF4875D, 0x3DF691DE,
   0x3DF89E3F, 0x3DFAAC7E, 0x3DFCBC9A, 0x3DFECE91, 0x3E007132, 0x3E017C08, 0x3E0287C9, 0x3E039476,
   0x3E04A20E, 0x3E05B090, 0x3E06BFFB, 0x3E07D04E, 0x3E08E18A, 0x3E09F3AD, 0x3E0B06B7, 0x3E0C1AA7,
   0x3E0D2F7D, 0x3E0E4537, 0x3E0F5BD5, 0x3E107356, 0x3E118BBB, 0x3E12A501, 0x3E13BF29, 0x3E14DA31]

/-- RN(0.5 - 0.5 cos(2 pi n / 2048)), entries 256 to 319. -/
def hannPart4 : List Nat :=
  [0x3E15F61A, 0x3E1712E1, 0x3E183088, 0x3E194F0C, 0x3E1A6E6E, 0x3E1B8EAC, 0x3E1CAFC6, 0x3E1DD1BB,
   0x3E1EF48B, 0x3E201834, 0x3E213CB7, 0x3E226212, 0x3E238844, 0x3E24AF4E, 0x3E25D72D, 0x3E26FFE3,
   0x3E28296D, 0x3E2953CB, 0x3E2A7EFC, 0x3E2BAB01, 0x3E2CD7D7, 0x3E2E057E, 0x3E2F33F6, 0x3E30633E,
   0x3E319354, 0x3E32C439, 0x3E33F5EC, 0x3E35286B, 0x3E365BB6, 0x3E378FCD, 0x3E38C4AE, 0x3E39FA59,
   0x3E3B30CE, 0x3E3C680A, 0x3E3DA00F, 0x3E3ED8DA, 0x3E40126B, 0x3E414CC1, 0x3E4287DC, 0x3E43C3BB,
   0x3E45005D, 0x3E463DC2, 0x3E477BE8, 0x3E48BACE, 0x3E49FA75, 0x3E4B3ADB, 0x3E4C7BFF, 0x3E4DBDE1,
   0x3E4F0080, 0x3E5043DB, 0x3E5187F2, 0x3E52CCC3, 0x3E54124E, 0x3E555891, 0x3E569F8E, 0x3E57E741,
   0x3E592FAB, 0x3E5A78CB, 0x3E5BC2A0, 0x3E5D0D2A, 0x3E5E5866, 0x3E5FA456, 0x3E60F0F7, 0x3E623E4A]

/-- RN(0.5 - 0.5 cos(2 pi n / 2048)), entries 320 to 383. -/
def hannPart5 : List Nat :=
  [0x3E638C4C, 0x3E64DAFF, 0x3E662A5F, 0x3E677A6E, 0x3E68CB2A, 0x3E6A1C92, 0x3E6B6EA5, 0x3E6CC163,
   0x3E6E14CB, 0x3E6F68DB, 0x3E70BD94, 0x3E7212F4, 0x3E7368FB, 0x3E74BFA8, 0x3E7616F9, 0x3E776EEE,
   0x3E78C786, 0x3E7A20C1, 0x3E7B7A9E, 0x3E7CD51B, 0x3E7E3038, 0x3E7F8BF3, 0x3E807427, 0x3E8122A3,
   0x3E81D16D, 0x3E828084, 0x3E832FEA, 0x3E83DF9C, 0x3E848F9B, 0x3E853FE6, 0x3E85F07C, 0x3E86A15E,
   0x3E87528B, 0x3E880402, 0x3E88B5C4, 0x3E8967CF, 0x3E8A1A23, 0x3E8ACCBF, 0x3E8B7FA4, 0x3E8C32D1,
   0x3E8CE646, 0x3E8D9A01, 0x3E8E4E03, 0x3E8F024B, 0x3E8FB6D9, 0x3E906BAC, 0x3E9120C3, 0x3E91D620,
   0x3E928BC0, 0x3E9341A4, 0x3E93F7CA, 0x3E94AE34, 0x3E9564DF, 0x3E961BCD, 0x3E96D2FB, 0x3E978A6B,
   0x3E98421B, 0x3E98FA0B, 0x3E99B23A, 0x3E9A6AA9, 0x3E9B2356, 0x3E9BDC42, 0x3E9C956B, 0x3E9D4ED2]

/-- RN(0.5 - 0.5 cos(2 pi n / 2048)), entries 384 to 447. -/
def hannPart6 : List Nat :=
  [0x3E9E0875, 0x3E9EC255, 0x3E9F7C71, 0x3EA036C9, 0x3EA0F15B, 0x3EA1AC28, 0x3EA26730, 0x3EA32271,
   0x3EA3DDEB, 0x3EA4999E, 0x3EA5558A, 0x3EA611AE, 0x3EA6CE09, 0x3EA78A9B, 0x3EA84763, 0x3EA90462,
   0x3EA9C196, 0x3EAA7F00, 0x3EAB3C9E, 0x3EABFA71, 0x3EACB877, 0x3EAD76B1, 0x3EAE351D, 0x3EAEF3BD,
   0x3EAFB28E, 0x3EB07190, 0x3EB130C4, 0x3EB1F028, 0x3EB2AFBD, 0x3EB36F81, 0x3EB42F75, 0x3EB4EF97,
   0x3EB5AFE7, 0x3EB67066, 0x3EB73111, 0x3EB7F1EA, 0x3EB8B2EF, 0x3EB97420, 0x3EBA357D, 0x3EBAF704,
   0x3EBBB8B6, 0x3EBC7A93, 0x3EBD3C99, 0x3EBDFEC8, 0x3EBEC120, 0x3EBF83A0, 0x3EC04648, 0x3EC10917,
   0x3EC1CC0D, 0x3EC28F29, 0x3EC3526C, 0x3EC415D4, 0x3EC4D960, 0x3EC59D11, 0x3EC660E7, 0x3EC724DF,
   0x3EC7E8FB, 0x3EC8AD3A, 0x3EC9719A, 0x3ECA361C, 0x3ECAFAC0, 0x3ECBBF84, 0x3ECC8468, 0x3ECD496C]

/-- RN(0.5 - 0.5 cos(2 pi n / 2048)), entries 448 to 511. -/
def hannPart7 : List Nat :=
  [0x3ECE0E90, 0x3ECED3D2, 0x3ECF9932, 0x3ED05EB1, 0x3ED1244C, 0x3ED1EA05, 0x3ED2AFDA, 0x3ED375CB,
   0x3ED43BD7, 0x3ED501FF, 0x3ED5C841, 0x3ED68E9D, 0x3ED75513, 0x3ED81BA1, 0x3ED8E249, 0x3ED9A908,
   0x3EDA6FDF, 0x3EDB36CD, 0x3EDBFDD2, 0x3EDCC4ED, 0x3EDD8C1E, 0x3EDE5365, 0x3EDF1ABF, 0x3EDFE22F,
   0x3EE0A9B2, 0x3EE17148, 0x3EE238F1, 0x3EE300AD, 0x3EE3C87A, 0x3EE49059, 0x3EE55849, 0x3EE62049,
   0x3EE6E859, 0x3EE7B079, 0x3EE878A8, 0x3EE940E5, 0x3EEA0930, 0x3EEAD189, 0x3EEB99EF, 0x3EEC6261,
   0x3EED2ADF, 0x3EEDF36A, 0x3EEEBBFF, 0x3EEF849F, 0x3EF04D49, 0x3EF115FD, 0x3EF1DEB9, 0x3EF2A77F,
   0x3EF3704D, 0x3EF43923, 0x3EF50200, 0x3EF5CAE3, 0x3EF693CD, 0x3EF75CBD, 0x3EF825B2, 0x3EF8EEAC,
   0x3EF9B7AB, 0x3EFA80AD, 0x3EFB49B2, 0x3EFC12BB, 0x3EFCDBC6, 0x3EFDA4D3, 0x3EFE6DE1, 0x3EFF36F0]

/-- RN(0.5 - 0.5 cos(2 pi n / 2048)), entries 512 to 575. -/
def hannPart8 : List Nat :=
  [0x3F000000, 0x3F006488, 0x3F00C910, 0x3F012D97, 0x3F01921D, 0x3F01F6A3, 0x3F025B27, 0x3F02BFAA,
   0x3F03242B, 0x3F0388AA, 0x3F03ED27, 0x3F0451A1, 0x3F04B619, 0x3F051A8E, 0x3F057F00, 0x3F05E36F,
   0x3F0647D9, 0x3F06AC40, 0x3F0710A3, 0x3F077502, 0x3F07D95C, 0x3F083DB1, 0x3F08A201, 0x3F09064B,
   0x3F096A90, 0x3F09CED0, 0x3F0A3309, 0x3F0A973C, 0x3F0AFB68, 0x3F0B5F8E, 0x3F0BC3AC, 0x3F0C27C4,
   0x3F0C8BD3, 0x3F0CEFDB, 0x3F0D53DC, 0x3F0DB7D3, 0x3F0E1BC3, 0x3F0E7FAA, 0x3F0EE387, 0x3F0F475C,
   0x3F0FAB27, 0x3F100EE9, 0x3F1072A0, 0x3F10D64E, 0x3F1139F1, 0x3F119D89, 0x3F120117, 0x3F126499,
   0x3F12C810, 0x3F132B7C, 0x3F138EDC, 0x3F13F22F, 0x3F145577, 0x3F14B8B1, 0x3F151BE0, 0x3F157F01,
   0x3F15E214, 0x3F16451B, 0x3F16A813, 0x3F170AFE, 0x3F176DDA, 0x3F17D0A8, 0x3F183367, 0x3F189617]

/-- RN(0.5 - 0.5 cos(2 pi n / 2048)), entries 576 to 639. -/
def hannPart9 : List Nat :=
  [0x3F18F8B8, 0x3F195B4A, 0x3F19BDCC, 0x3F1A203E, 0x3F1A82A0, 0x3F1AE4F2, 0x3F1B4733, 0x3F1BA963,
   0x3F1C0B82, 0x3F1C6D90, 0x3F1CCF8D, 0x3F1D3177, 0x3F1D9350, 0x3F1DF516, 0x3F1E56CA, 0x3F1EB86B,
   0x3F1F19F9, 0x3F1F7B75, 0x3F1FDCDC, 0x3F203E30, 0x3F209F70, 0x3F21009C, 0x3F2161B4, 0x3F21C2B7,
   0x3F2223A5, 0x3F22847E, 0x3F22E542, 0x3F2345F0, 0x3F23A688, 0x3F24070B, 0x3F246777, 0x3F24C7CD,
   0x3F25280C, 0x3F258835, 0x3F25E846, 0x3F26483F, 0x3F26A822, 0x3F2707EC, 0x3F27679E, 0x3F27C738,
   0x3F2826B9, 0x3F288622, 0x3F28E571, 0x3F2944A8, 0x3F29A3C5, 0x3F2A02C8, 0x3F2A61B1, 0x3F2AC080,
   0x3F2B1F35, 0x3F2B7DCF, 0x3F2BDC4E, 0x3F2C3AB3, 0x3F2C98FC, 0x3F2CF729, 0x3F2D553B, 0x3F2DB331,
   0x3F2E110A, 0x3F2E6EC8, 0x3F2ECC68, 0x3F2F29EC, 0x3F2F8752, 0x3F2FE49C, 0x3F3041C7, 0x3F309ED5]

/-- RN(0.5 - 0.5 cos(2 pi n / 2048)), entries 640 to 703. -/
def hannPart10 : List Nat :=
  [0x3F30FBC5, 0x3F315897, 0x3F31B54A, 0x3F3211DF, 0x3F326E55, 0x3F32CAAB, 0x3F3326E3, 0x3F3382FB,
   0x3F33DEF3, 0x3F343ACB, 0x3F349682, 0x3F34F21A, 0x3F354D90, 0x3F35A8E6, 0x3F36041B, 0x3F365F2E,
   0x3F36BA20, 0x3F3714F0, 0x3F376F9E, 0x3F37CA2A, 0x3F382494, 0x3F387EDB, 0x3F38D8FF, 0x3F393300,
   0x3F398CDD, 0x3F39E697, 0x3F3A402E, 0x3F3A99A0, 0x3F3AF2EF, 0x3F3B4C19, 0x3F3BA51E, 0x3F3BFDFF,
   0x3F3C56BA, 0x3F3CAF51, 0x3F3D07C2, 0x3F3D600D, 0x3F3DB833, 0x3F3E1032, 0x3F3E680B, 0x3F3EBFBE,
   0x3F3F174A, 0x3F3F6EAF, 0x3F3FC5ED, 0x3F401D03, 0x3F4073F2, 0x3F40CAB9, 0x3F412159, 0x3F4177D0,
   0x3F41CE1E, 0x3F422445, 0x3F427A42, 0x3F42D016, 0x3F4325C1, 0x3F437B43, 0x3F43D09B, 0x3F4425C9,
   0x3F447ACD, 0x3F44CFA7, 0x3F452457, 0x3F4578DC, 0x3F45CD36, 0x3F462164, 0x3F467568, 0x3F46C940]

/-- RN(0.5 - 0.5 cos(2 pi n / 2048)), entries 704 to 767. -/
def hannPart11 : List Nat :=
  [0x3F471CED, 0x3F47706E, 0x3F47C3C2, 0x3F4816EB, 0x3F4869E6, 0x3F48BCB6, 0x3F490F58, 0x3F4961CD,
   0x3F49B415, 0x3F4A0630, 0x3F4A581D, 0x3F4AA9DC, 0x3F4AFB6D, 0x3F4B4CCF, 0x3F4B9E04, 0x3F4BEF09,
   0x3F4C3FE0, 0x3F4C9088, 0x3F4CE100, 0x3F4D3149, 0x3F4D8163, 0x3F4DD14C, 0x3F4E2106, 0x3F4E7090,
   0x3F4EBFE9, 0x3F4F0F11, 0x3F4F5E09, 0x3F4FACD0, 0x3F4FFB65, 0x3F5049CA, 0x3F5097FC, 0x3F50E5FD,
   0x3F5133CD, 0x3F51816A, 0x3F51CED4, 0x3F521C0D, 0x3F526912, 0x3F52B5E5, 0x3F530285, 0x3F534EF2,
   0x3F539B2B, 0x3F53E731, 0x3F543302, 0x3F547EA0, 0x3F54CA0A, 0x3F551540, 0x3F556041, 0x3F55AB0D,
   0x3F55F5A5, 0x3F564007, 0x3F568A35, 0x3F56D42D, 0x3F571DEF, 0x3F57677C, 0x3F57B0D2, 0x3F57F9F3,
   0x3F5842DD, 0x3F588B91, 0x3F58D40F, 0x3F591C55, 0x3F596465, 0x3F59AC3D, 0x3F59F3DE, 0x3F5A3B48]

/-- RN(0.5 - 0.5 cos(2 pi n / 2048)), entries 768 to 831. -/
def hannPart12 : List Nat :=
  [0x3F5A827A, 0x3F5AC974, 0x3F5B1036, 0x3F5B56C0, 0x3F5B9D11, 0x3F5BE32A, 0x3F5C290B, 0x3F5C6EB2,
   0x3F5CB421, 0x3F5CF956, 0x3F5D3E52, 0x3F5D8315, 0x3F5DC79D, 0x3F5E0BEC, 0x3F5E5001, 0x3F5E93DC,
   0x3F5ED77D, 0x3F5F1AE2, 0x3F5F5E0E, 0x3F5FA0FE, 0x3F5FE3B4, 0x3F60262E, 0x3F60686D, 0x3F60AA70,
   0x3F60EC38, 0x3F612DC4, 0x3F616F14, 0x3F61B028, 0x3F61F100, 0x3F62319C, 0x3F6271FA, 0x3F62B21C,
   0x3F62F202, 0x3F6331AA, 0x3F637115, 0x3F63B042, 0x3F63EF33, 0x3F642DE5, 0x3F646C5A, 0x3F64AA90,
   0x3F64E889, 0x3F652644, 0x3F6563C0, 0x3F65A0FD, 0x3F65DDFC, 0x3F661ABC, 0x3F66573D, 0x3F66937F,
   0x3F66CF81, 0x3F670B44, 0x3F6746C8, 0x3F67820C, 0x3F67BD10, 0x3F67F7D4, 0x3F683258, 0x3F686C9B,
   0x3F68A69F, 0x3F68E061, 0x3F6919E3, 0x3F695324, 0x3F698C24, 0x3F69C4E3, 0x3F69FD61, 0x3F6A359E]

/-- RN(0.5 - 0.5 cos(2 pi n / 2048)), entries 832 to 895. -/
def hannPart13 : List Nat :=
  [0x3F6A6D99, 0x3F6AA552, 0x3F6ADCC9, 0x3F6B13FF, 0x3F6B4AF2, 0x3F6B81A4, 0x3F6BB813, 0x3F6BEE3F,
   0x3F6C2429, 0x3F6C59D1, 0x3F6C8F35, 0x3F6CC457, 0x3F6CF935, 0x3F6D2DD0, 0x3F6D6228, 0x3F6D963C,
   0x3F6DCA0D, 0x3F6DFD9A, 0x3F6E30E3, 0x3F6E63E8, 0x3F6E96AA, 0x3F6EC927, 0x3F6EFB5F, 0x3F6F2D53,
   0x3F6F5F03, 0x3F6F906E, 0x3F6FC194, 0x3F6FF275, 0x3F702311, 0x3F705367, 0x3F708379, 0x3F70B345,
   0x3F70E2CC, 0x3F71120D, 0x3F714108, 0x3F716FBD, 0x3F719E2D, 0x3F71CC56, 0x3F71FA39, 0x3F7227D6,
   0x3F72552D, 0x3F72823C, 0x3F72AF06, 0x3F72DB88, 0x3F7307C4, 0x3F7333B9, 0x3F735F66, 0x3F738ACD,
   0x3F73B5EC, 0x3F73E0C4, 0x3F740B54, 0x3F74359D, 0x3F745F9E, 0x3F748957, 0x3F74B2C9, 0x3F74DBF2,
   0x3F7504D3, 0x3F752D6C, 0x3F7555BD, 0x3F757DC6, 0x3F75A586, 0x3F75CCFD, 0x3F75F42C, 0x3F761B12]

/-- RN(0.5 - 0.5 cos(2 pi n / 2048)), entries 896 to 959. -/
def hannPart14 : List Nat :=
  [0x3F7641AF, 0x3F766803, 0x3F768E0F, 0x3F76B3D1, 0x3F76D94A, 0x3F76FE79, 0x3F77235F, 0x3F7747FC,
   0x3F776C4F, 0x3F779058, 0x3F77B418, 0x3F77D78E, 0x3F77FABA, 0x3F781D9B, 0x3F784033, 0x3F786281,
   0x3F788484, 0x3F78A63D, 0x3F78C7AC, 0x3F78E8D0, 0x3F7909A9, 0x3F792A38, 0x3F794A7C, 0x3F796A75,
   0x3F798A24, 0x3F79A987, 0x3F79C89F, 0x3F79E76D, 0x3F7A05EF, 0x3F7A2425, 0x3F7A4211, 0x3F7A5FB1,
   0x3F7A7D05, 0x3F7A9A0E, 0x3F7AB6CC, 0x3F7AD33D, 0x3F7AEF63, 0x3F7B0B3D, 0x3F7B26CB, 0x3F7B420D,
   0x3F7B5D04, 0x3F7B77AE, 0x3F7B920C, 0x3F7BAC1D, 0x3F7BC5E3, 0x3F7BDF5C, 0x3F7BF888, 0x3F7C1168,
   0x3F7C29FC, 0x3F7C4243, 0x3F7C5A3D, 0x3F7C71EB, 0x3F7C894C, 0x3F7CA060, 0x3F7CB727, 0x3F7CCDA1,
   0x3F7CE3CF, 0x3F7CF9AF, 0x3F7D0F42, 0x3F7D2488, 0x3F7D3981, 0x3F7D4E2C, 0x3F7D628B, 0x3F7D769C]

/-- RN(0.5 - 0.5 cos(2 pi n / 2048)), entries 960 to 1023. -/
def hannPart15 : List Nat :=
  [0x3F7D8A5F, 0x3F7D9DD5, 0x3F7DB0FE, 0x3F7DC3D9, 0x3F7DD667, 0x3F7DE8A6, 0x3F7DFA99, 0x3F7E0C3D,
   0x3F7E1D94, 0x3F7E2E9D, 0x3F7E3F58, 0x3F7E4FC5, 0x3F7E5FE5, 0x3F7E6FB6, 0x3F7E7F39, 0x3F7E8E6F,
   0x3F7E9D56, 0x3F7EABEF, 0x3F7EBA3A, 0x3F7EC837, 0x3F7ED5E6, 0x3F7EE346, 0x3F7EF058, 0x3F7EFD1C,
   0x3F7F0992, 0x3F7F15B9, 0x3F7F2192, 0x3F7F2D1C, 0x3F7F3858, 0x3F7F4345, 0x3F7F4DE4, 0x3F7F5835,
   0x3F7F6237, 0x3F7F6BEA, 0x3F7F754E, 0x3F7F7E65, 0x3F7F872C, 0x3F7F8FA5, 0x3F7F97CF, 0x3F7F9FAA,
   0x3F7FA737, 0x3F7FAE75, 0x3F7FB564, 0x3F7FBC04, 0x3F7FC256, 0x3F7FC858, 0x3F7FCE0C, 0x3F7FD371,
   0x3F7FD888, 0x3F7FDD4F, 0x3F7FE1C7, 0x3F7FE5F1, 0x3F7FE9CC, 0x3F7FED58, 0x3F7FF094, 0x3F7FF382,
   0x3F7FF622, 0x3F7FF872, 0x3F7FFA73, 0x3F7FFC25, 0x3F7FFD88, 0x3F7FFE9D, 0x3F7FFF62, 0x3F7FFFD9]

/-- RN(0.5 - 0.5 cos(2 pi n / 2048)), entries 1024 to 1024. -/
def hannPart16 : List Nat :=
  [0x3F800000]

/-- The first half of the window, n in 0..1024, in parts of 64. -/
def hannParts : List (List Nat) :=
  [hannPart0, hannPart1, hannPart2, hannPart3, hannPart4, hannPart5, hannPart6, hannPart7, hannPart8, hannPart9, hannPart10, hannPart11, hannPart12, hannPart13, hannPart14, hannPart15, hannPart16]

/-! ### RN(cos(2 pi q / 2048)) for q in 0..512 -/

/-- RN(cos(2 pi q / 2048)), entries 0 to 63. -/
def cosPart0 : List Nat :=
  [0x3F800000, 0x3F7FFFB1, 0x3F7FFEC4, 0x3F7FFD39, 0x3F7FFB11, 0x3F7FF84A, 0x3F7FF4E6, 0x3F7FF0E3,
   0x3F7FEC43, 0x3F7FE705, 0x3F7FE129, 0x3F7FDAAF, 0x3F7FD397, 0x3F7FCBE2, 0x3F7FC38F, 0x3F7FBA9E,
   0x3F7FB10F, 0x3F7FA6E3, 0x3F7F9C18, 0x3F7F90B1, 0x3F7F84AB, 0x3F7F7808, 0x3F7F6AC7, 0x3F7F5CE9,
   0x3F7F4E6D, 0x3F7F3F54, 0x3F7F2F9D, 0x3F7F1F49, 0x3F7F0E58, 0x3F7EFCC9, 0x3F7EEA9D, 0x3F7ED7D4,
   0x3F7EC46D, 0x3F7EB069, 0x3F7E9BC9, 0x3F7E868B, 0x3F7E70B0, 0x3F7E5A38, 0x3F7E4323, 0x3F7E2B72,
   0x3F7E1324, 0x3F7DFA38, 0x3F7DE0B1, 0x3F7DC68C, 0x3F7DABCC, 0x3F7D906E, 0x3F7D7474, 0x3F7D57DE,
   0x3F7D3AAC, 0x3F7D1CDD, 0x3F7CFE73, 0x3F7CDF6C, 0x3F7CBFC9, 0x3F7C9F8A, 0x3F7C7EB0, 0x3F7C5D3A,
   0x3F7C3B28, 0x3F7C187A, 0x3F7BF531, 0x3F7BD14D, 0x3F7BACCD, 0x3F7B87B2, 0x3F7B61FC, 0x3F7B3BAB]

/-- RN(cos(2 pi q / 2048)), entries 64 to 127. -/
def cosPart1 : List Nat :=
  [0x3F7B14BE, 0x3F7AED37, 0x3F7AC516, 0x3F7A9C59, 0x3F7A7302, 0x3F7A4910, 0x3F7A1E84, 0x3F79F35E,
   0x3F79C79D, 0x3F799B43, 0x3F796E4E, 0x3F7940C0, 0x3F791298, 0x3F78E3D6, 0x3F78B47B, 0x3F788486,
   0x3F7853F8, 0x3F7822D1, 0x3F77F110, 0x3F77BEB7, 0x3F778BC5, 0x3F77583A, 0x3F772417, 0x3F76EF5B,
   0x3F76BA07, 0x3F76841B, 0x3F764D97, 0x3F76167A, 0x3F75DEC6, 0x3F75A67B, 0x3F756D97, 0x3F75341D,
   0x3F74FA0B, 0x3F74BF62, 0x3F748422, 0x3F74484B, 0x3F740BDD, 0x3F73CED9, 0x3F73913F, 0x3F73530E,
   0x3F731447, 0x3F72D4EB, 0x3F7294F8, 0x3F725470, 0x3F721352, 0x3F71D19F, 0x3F718F57, 0x3F714C7A,
   0x3F710908, 0x3F70C501, 0x3F708066, 0x3F703B37, 0x3F6FF573, 0x3F6FAF1B, 0x3F6F6830, 0x3F6F20B0,
   0x3F6ED89E, 0x3F6E8FF8, 0x3F6E46BE, 0x3F6DFCF2, 0x3F6DB293, 0x3F6D67A1, 0x3F6D1C1D, 0x3F6CD007]

/-- RN(cos(2 pi q / 2048)), entries 128 to 191. -/
def cosPart2 : List Nat :=
  [0x3F6C835E, 0x3F6C3624, 0x3F6BE858, 0x3F6B99FB, 0x3F6B4B0C, 0x3F6AFB8C, 0x3F6AAB7B, 0x3F6A5AD9,
   0x3F6A09A7, 0x3F69B7E4, 0x3F696591, 0x3F6912AE, 0x3F68BF3C, 0x3F686B39, 0x3F6816A8, 0x3F67C187,
   0x3F676BD8, 0x3F671599, 0x3F66BECC, 0x3F666771, 0x3F660F88, 0x3F65B710, 0x3F655E0B, 0x3F650479,
   0x3F64AA59, 0x3F644FAC, 0x3F63F473, 0x3F6398AC, 0x3F633C5A, 0x3F62DF7B, 0x3F628210, 0x3F62241A,
   0x3F61C598, 0x3F61668A, 0x3F6106F2, 0x3F60A6CF, 0x3F604621, 0x3F5FE4E9, 0x3F5F8327, 0x3F5F20DB,
   0x3F5EBE05, 0x3F5E5AA6, 0x3F5DF6BE, 0x3F5D924D, 0x3F5D2D53, 0x3F5CC7D1, 0x3F5C61C7, 0x3F5BFB34,
   0x3F5B941A, 0x3F5B2C79, 0x3F5AC450, 0x3F5A5BA0, 0x3F59F26A, 0x3F5988AD, 0x3F591E6A, 0x3F58B3A1,
   0x3F584853, 0x3F57DC7F, 0x3F577026, 0x3F570348, 0x3F5695E5, 0x3F5627FE, 0x3F55B993, 0x3F554AA4]

/-- RN(cos(2 pi q / 2048)), entries 192 to 255. -/
def cosPart3 : List Nat :=
  [0x3F54DB31, 0x3F546B3B, 0x3F53FAC3, 0x3F5389C7, 0x3F531849, 0x3F52A649, 0x3F5233C6, 0x3F51C0C2,
   0x3F514D3D, 0x3F50D937, 0x3F5064AF, 0x3F4FEFA8, 0x3F4F7A1F, 0x3F4F0417, 0x3F4E8D90, 0x3F4E1689,
   0x3F4D9F02, 0x3F4D26FD, 0x3F4CAE79, 0x3F4C3578, 0x3F4BBBF8, 0x3F4B41FA, 0x3F4AC77F, 0x3F4A4C87,
   0x3F49D112, 0x3F495521, 0x3F48D8B3, 0x3F485BCA, 0x3F47DE65, 0x3F476085, 0x3F46E22A, 0x3F466354,
   0x3F45E403, 0x3F456439, 0x3F44E3F5, 0x3F446337, 0x3F43E200, 0x3F436051, 0x3F42DE29, 0x3F425B89,
   0x3F41D870, 0x3F4154E1, 0x3F40D0DA, 0x3F404C5C, 0x3F3FC767, 0x3F3F41FC, 0x3F3EBC1B, 0x3F3E35C5,
   0x3F3DAEF9, 0x3F3D27B8, 0x3F3CA003, 0x3F3C17D9, 0x3F3B8F3B, 0x3F3B0629, 0x3F3A7CA4, 0x3F39F2AC,
   0x3F396842, 0x3F38DD65, 0x3F385216, 0x3F37C655, 0x3F373A23, 0x3F36AD7F, 0x3F36206C, 0x3F3592E7]

/-- RN(cos(2 pi q / 2048)), entries 256 to 319. -/
def cosPart4 : List Nat :=
  [0x3F3504F3, 0x3F34768F, 0x3F33E7BC, 0x3F33587A, 0x3F32C8C9, 0x3F3238AA, 0x3F31A81D, 0x3F311722,
   0x3F3085BB, 0x3F2FF3E6, 0x3F2F61A5, 0x3F2ECEF7, 0x3F2E3BDE, 0x3F2DA859, 0x3F2D1469, 0x3F2C800F,
   0x3F2BEB4A, 0x3F2B561B, 0x3F2AC082, 0x3F2A2A80, 0x3F299415, 0x3F28FD41, 0x3F286605, 0x3F27CE61,
   0x3F273656, 0x3F269DE3, 0x3F26050A, 0x3F256BCB, 0x3F24D225, 0x3F24381A, 0x3F239DA9, 0x3F2302D3,
   0x3F226799, 0x3F21CBFB, 0x3F212FF9, 0x3F209393, 0x3F1FF6CB, 0x3F1F599F, 0x3F1EBC12, 0x3F1E1E22,
   0x3F1D7FD1, 0x3F1CE11F, 0x3F1C420C, 0x3F1BA299, 0x3F1B02C6, 0x3F1A6293, 0x3F19C200, 0x3F19210F,
   0x3F187FC0, 0x3F17DE12, 0x3F173C07, 0x3F16999F, 0x3F15F6D9, 0x3F1553B7, 0x3F14B039, 0x3F140C5F,
   0x3F13682A, 0x3F12C39A, 0x3F121EB0, 0x3F11796B, 0x3F10D3CD, 0x3F102DD5, 0x3F0F8784, 0x3F0EE0DB]

/-- RN(cos(2 pi q / 2048)), entries 320 to 383. -/
def cosPart5 : List Nat :=
  [0x3F0E39DA, 0x3F0D9281, 0x3F0CEAD0, 0x3F0C42C9, 0x3F0B9A6B, 0x3F0AF1B7, 0x3F0A48AD, 0x3F099F4E,
   0x3F08F59B, 0x3F084B92, 0x3F07A136, 0x3F06F686, 0x3F064B82, 0x3F05A02C, 0x3F04F484, 0x3F044889,
   0x3F039C3D, 0x3F02EF9F, 0x3F0242B1, 0x3F019573, 0x3F00E7E4, 0x3F003A06, 0x3EFF17B2, 0x3EFDBABB,
   0x3EFC5D27, 0x3EFAFEF7, 0x3EF9A02D, 0x3EF840C8, 0x3EF6E0CB, 0x3EF58035, 0x3EF41F07, 0x3EF2BD43,
   0x3EF15AEA, 0x3EEFF7FB, 0x3EEE9479, 0x3EED3063, 0x3EEBCBBB, 0x3EEA6681, 0x3EE900B7, 0x3EE79A5D,
   0x3EE63375, 0x3EE4CBFE, 0x3EE363FA, 0x3EE1FB6A, 0x3EE0924F, 0x3EDF28A9, 0x3EDDBE79, 0x3EDC53C1,
   0x3EDAE880, 0x3ED97CB9, 0x3ED8106B, 0x3ED6A399, 0x3ED53641, 0x3ED3C867, 0x3ED25A09, 0x3ED0EB2A,
   0x3ECF7BCA, 0x3ECE0BEA, 0x3ECC9B8B, 0x3ECB2AAE, 0x3EC9B953, 0x3EC8477C, 0x3EC6D529, 0x3EC5625C]

/-- RN(cos(2 pi q / 2048)), entries 384 to 447. -/
def cosPart6 : List Nat :=
  [0x3EC3EF15, 0x3EC27B55, 0x3EC1071E, 0x3EBF926F, 0x3EBE1D4A, 0x3EBCA7AF, 0x3EBB31A0, 0x3EB9BB1E,
   0x3EB8442A, 0x3EB6CCC3, 0x3EB554EC, 0x3EB3DCA5, 0x3EB263EF, 0x3EB0EACB, 0x3EAF713A, 0x3EADF73C,
   0x3EAC7CD4, 0x3EAB0201, 0x3EA986C4, 0x3EA80B1F, 0x3EA68F12, 0x3EA5129F, 0x3EA395C5, 0x3EA21887,
   0x3EA09AE5, 0x3E9F1CDF, 0x3E9D9E78, 0x3E9C1FAF, 0x3E9AA086, 0x3E9920FE, 0x3E97A117, 0x3E9620D2,
   0x3E94A031, 0x3E931F35, 0x3E919DDD, 0x3E901C2C, 0x3E8E9A22, 0x3E8D17C0, 0x3E8B9507, 0x3E8A11F7,
   0x3E888E93, 0x3E870ADA, 0x3E8586CE, 0x3E840270, 0x3E827DC0, 0x3E80F8C0, 0x3E7EE6E1, 0x3E7BDBA4,
   0x3E78CFCC, 0x3E75C35A, 0x3E72B651, 0x3E6FA8B2, 0x3E6C9A7F, 0x3E698BBA, 0x3E667C66, 0x3E636C83,
   0x3E605C13, 0x3E5D4B1A, 0x3E5A3997, 0x3E57278F, 0x3E541501, 0x3E5101F1, 0x3E4DEE60, 0x3E4ADA4F]

/-- RN(cos(2 pi q / 2048)), entries 448 to 511. -/
def cosPart7 : List Nat :=
  [0x3E47C5C2, 0x3E44B0B9, 0x3E419B37, 0x3E3E853E, 0x3E3B6ECF, 0x3E3857EC, 0x3E354098, 0x3E3228D4,
   0x3E2F10A2, 0x3E2BF804, 0x3E28DEFC, 0x3E25C58C, 0x3E22ABB6, 0x3E1F917B, 0x3E1C76DE, 0x3E195BE0,
   0x3E164083, 0x3E1324CA, 0x3E1008B7, 0x3E0CEC4A, 0x3E09CF86, 0x3E06B26E, 0x3E039502, 0x3E007745,
   0x3DFAB273, 0x3DF475C0, 0x3DEE3876, 0x3DE7FA9A, 0x3DE1BC2E, 0x3DDB7D37, 0x3DD53DB9, 0x3DCEFDB7,
   0x3DC8BD36, 0x3DC27C39, 0x3DBC3AC3, 0x3DB5F8DA, 0x3DAFB680, 0x3DA973BA, 0x3DA3308C, 0x3D9CECF9,
   0x3D96A905, 0x3D9064B4, 0x3D8A200A, 0x3D83DB0A, 0x3D7B2B74, 0x3D6EA038, 0x3D621469, 0x3D55880E,
   0x3D48FB30, 0x3D3C6DD5, 0x3D2FE007, 0x3D2351CB, 0x3D16C32C, 0x3D0A342F, 0x3CFB49BA, 0x3CE22A7A,
   0x3CC90AB0, 0x3CAFEA69, 0x3C96C9B6, 0x3C7B514B, 0x3C490E90, 0x3C16CB58, 0x3BC90F88, 0x3B490FC6]

/-- RN(cos(2 pi q / 2048)), entries 512 to 512. -/
def cosPart8 : List Nat :=
  [0x00000000]

/-- The first quarter of the cosine, q in 0..512, in parts of 64. -/
def cosParts : List (List Nat) :=
  [cosPart0, cosPart1, cosPart2, cosPart3, cosPart4, cosPart5, cosPart6, cosPart7, cosPart8]

/-! ### The tables of the spec -/

/-- The i-th entry of a table in parts of 64. -/
def partsEntry (parts : List (List Nat)) (i : Nat) : Word :=
  BitVec.ofNat 32 ((parts.getD (i / 64) []).getD (i % 64) 0)

/-- `WIN[n]` for n in 0..2048 (R123), by `WIN[n] = WIN[2048 - n]`. -/
def hannWindow (n : Nat) : Word := partsEntry hannParts (if n ≤ 1024 then n else 2048 - n)

/-- `ENV[i]` for i in 0..1024 (R124): the angle 2 pi i / 1024 is that of `WIN[2i]`. -/
def envTable (i : Nat) : Word := hannWindow (2 * i)

/-- RN(cos(2 pi q / 2048)) for q in 0..1024 (R119): the second quarter is the first mirrored, with its sign flipped.
DESIGN CHOICE: R119 states the sign of a zero for the imaginary part of `TW_N_dir[0]` only; the zero RN(cos(pi/2)) at
q = 512, the real part of `TW_N_dir[N/4]`, is +0.0 here (assumption 21). -/
def cosTurn (q : Nat) : Word :=
  if q ≤ 512 then partsEntry cosParts q else F32.neg (partsEntry cosParts (1024 - q))

/-- RN(sin(2 pi q / 2048)) for q in 0..1024: the cosine a quarter turn away. -/
def sinTurn (q : Nat) : Word := partsEntry cosParts (if q ≤ 512 then 512 - q else q - 512)

/-- The direction of a transform (R118). -/
inductive FftDir where
  /-- Forward. -/
  | fwd
  /-- Inverse, unnormalized. -/
  | inv
deriving DecidableEq, Repr

/-- `TW_N_dir[q]` for q in 0..N/2, N = 256 or N = 2048 (R119): the angle 2 pi q / N is that of entry
q 2048 / N of the table for 2048. The forward imaginary part is the sine with its sign flipped, so
`TW_N_fwd[0] = (1.0, -0.0)`. -/
def twiddle (n : Nat) (dir : FftDir) (q : Nat) : C32 :=
  let j := q * (2048 / n)
  match dir with
  | .fwd => ⟨cosTurn j, F32.neg (sinTurn j)⟩
  | .inv => ⟨cosTurn j, sinTurn j⟩

end Sys2Proof.Machine
end

