-- ==== Sys2Proof/Machine/Fft.lean ====
section
/-! DEFINITION. The reference transform `REF_FFT` (40_numerics.md R118) and the configured transforms `FFT_N`,
`IFFT_N` (R120). -/

namespace Sys2Proof.Machine

/-- `bitrev_m(i)`: the low m bits of i reversed (R118). -/
def bitrev : Nat → Nat → Nat
  | 0, _ => 0
  | m + 1, i => (i % 2) * 2 ^ m + bitrev m (i / 2)

/-- One group of L values in a stage: `half` butterflies, `w = TW_N_dir[j * stride]`, j from 0 (R118). The
first half of the group is `lo`, the second `hi`. -/
def butterflies (n : Nat) (dir : FftDir) (stride : Nat) (lo hi : List C32) : List C32 :=
  let t := (hi.zipIdx).map (fun p => C32.mul (twiddle n dir (p.2 * stride)) p.1)
  List.zipWith C32.add lo t ++ List.zipWith C32.sub lo t

/-- One stage: `count` groups of 2 half values, one after the other (R118). -/
def fftStage (n : Nat) (dir : FftDir) (half stride : Nat) : Nat → List C32 → List C32
  | 0, _ => []
  | count + 1, a =>
    butterflies n dir stride (a.take half) ((a.drop half).take half) ++
      fftStage n dir half stride count (a.drop (2 * half))

/-- Stages s to m, s from 1: L = 2^s, half = L / 2, stride = N / L (R118). `left` counts the stages to run. -/
def fftStages (n : Nat) (dir : FftDir) : Nat → Nat → List C32 → List C32
  | 0, _, a => a
  | left + 1, s, a =>
    fftStages n dir left (s + 1) (fftStage n dir (2 ^ (s - 1)) (n / 2 ^ s) (n / 2 ^ s) a)

/-- `REF_FFT_N(x, dir)` for N = 2^m (R118). The input is placed in bit-reversed order: `a[bitrev(i)] <- x[i]`,
and bit reversal is its own inverse. -/
def refFft (n : Nat) (dir : FftDir) (x : List C32) : List C32 :=
  let m := Nat.log2 n
  fftStages n dir m 1 (tabulate n (fun i => x.getD (bitrev m i) C32.zero))

/-- `FFT_N(x)` (R120): N values from N values. -/
def fft (cfg : Config.Numerics) (n : Nat) (x : List C32) : List C32 :=
  match cfg with
  | .reference => refFft n .fwd x
  | .implementation => tabulate n (Config.fft n x)

/-- `IFFT_N(X)` (R120), unnormalized (R117). -/
def ifft (cfg : Config.Numerics) (n : Nat) (x : List C32) : List C32 :=
  match cfg with
  | .reference => refFft n .inv x
  | .implementation => tabulate n (Config.ifft n x)

end Sys2Proof.Machine
end

