-- ==== Sys2Proof/Machine/Transcendental.lean ====
section
/-! DEFINITION. The transcendental functions (40_numerics.md R115): the reference ones, correctly rounded, and
the configured ones, which the commands use.

The reference functions are evaluated in fixed point with 640 fraction bits and rounded once. DEDUCED: that
this is the binary32 nearest the exact real value is a matter of the error bound, not proved here
(assumption 7). -/

namespace Sys2Proof.Machine

/-! ### Fixed point with 640 fraction bits -/

/-- 1.0 in fixed point. -/
def fixOne : Nat := 2 ^ 640

/-- The product of two fixed-point numbers. -/
def fixMul (a b : Nat) : Nat := a * b / fixOne

/-- pi in fixed point, truncated. -/
def fixPi : Nat :=
  0x3243f6a8885a308d313198a2e03707344a4093822299f31d0082efa98ec4e6c89452821e638d01377be5466cf34e90c6cc0ac29b7c97c50dd3f84d5b5b54709179216d5d98979fb1bd1310ba698dfb5ac

/-- ln 2 in fixed point, truncated. -/
def fixLn2 : Nat :=
  0xb17217f7d1cf79abc9e3b39803f2f6af40f343267298b62d8a0d175b8baafa2be7b876206debac98559552fb4afa1b10ed2eae35c138214427573b291169b8253e96ca16224ae8c51acbda11317c387e

/-- The magnitude of a binary32 value in fixed point, exact. -/
def fixMag (w : Word) : Nat := F32.mag w * 2 ^ 491

/-- A fixed-point number rounded to the nearest binary32. -/
def fixRound (v : Int) : Word := F32.pack (decide (v < 0)) (F32.roundBits (v.natAbs * F32.unitsPerOne) fixOne)

/-- Terms k, k+1, ... of the cosine series at x, alternating: `t` is the k-th term's magnitude. -/
def cosSeries (x : Nat) : Nat → Nat → Nat → Int
  | 0, _, _ => 0
  | left + 1, k, t => (t : Int) - cosSeries x left (k + 1) (fixMul (fixMul t x) x / ((2 * k + 1) * (2 * k + 2)))

/-- Terms k, k+1, ... of the sine series at x, alternating: `t` is the k-th term's magnitude. -/
def sinSeries (x : Nat) : Nat → Nat → Nat → Int
  | 0, _, _ => 0
  | left + 1, k, t => (t : Int) - sinSeries x left (k + 1) (fixMul (fixMul t x) x / ((2 * k + 2) * (2 * k + 3)))

/-- Terms k, k+1, ... of the exponential series at y: `t` is the k-th term. -/
def expSeries (y : Nat) : Nat → Nat → Nat → Nat
  | 0, _, _ => 0
  | left + 1, k, t => t + expSeries y left (k + 1) (fixMul t y / (k + 1))

/-- Terms n, n+1, ... of Euler's series of the arctangent, each (2n+2)/(2n+3) t^2/(1+t^2) times the one before:
`q` is t^2/(1+t^2) and `u` the n-th term. -/
def atanSeries (q : Nat) : Nat → Nat → Nat → Nat
  | 0, _, _ => 0
  | left + 1, n, u => u + atanSeries q left (n + 1) (fixMul u q * (2 * n + 2) / (2 * n + 3))

/-- The arctangent of a fixed-point number t <= 1. -/
def fixAtan (t : Nat) : Nat :=
  let t2 := fixMul t t
  atanSeries (t2 * fixOne / (fixOne + t2)) 700 0 (t * fixOne / (fixOne + t2))

/-! ### The reference functions at the operands for which the spec states a value -/

/-- cos of a finite value. -/
def refCos (x : Word) : Word := fixRound (cosSeries (fixMag x % (2 * fixPi)) 120 0 fixOne)

/-- sin of a finite value. PRESUMED: a zero returns itself, as in C99 Annex F; R115 states no sign for SIN(±0)
(assumption 22). -/
def refSin (x : Word) : Word :=
  if F32.mag x = 0 then x
  else
    let r := fixMag x % (2 * fixPi)
    let v := sinSeries r 120 0 r
    fixRound (if F32.sign x then -v else v)

/-- 2^x for a value that is no NaN: 2^n e^(f ln 2) with n the floor of x and f = x - n. -/
def refExp2 (x : Word) : Word :=
  let whole := fixMag x / fixOne
  let part := fixMag x % fixOne
  let n : Int := if F32.sign x then (if part = 0 then -(whole : Int) else -(whole : Int) - 1) else (whole : Int)
  let f := if F32.sign x && part != 0 then fixOne - part else part
  if 128 ≤ n then F32.inf
  else if n < -160 then F32.zero
  else
    let e := expSeries (fixMul f fixLn2) 160 0 fixOne
    if 0 ≤ n + 149 then F32.pack false (F32.roundBits (e * 2 ^ (n + 149).toNat) fixOne)
    else F32.pack false (F32.roundBits e (fixOne * 2 ^ (-(n + 149)).toNat))

/-- The angle of the point with coordinates x = b, y = a, both finite magnitudes and not both zero. -/
def fixAngle (a b : Nat) : Nat :=
  if a ≤ b then fixAtan (a * fixOne / b) else fixPi / 2 - fixAtan (b * fixOne / a)

/-- A pattern with the sign of `y`. -/
def F32.withSignOf (y w : Word) : Word := if F32.sign y then F32.neg w else w

/-- The cases of ATAN2 with y = ±0 (R115, C99 Annex F): ±PI_F for x negative or -0.0, else y itself. -/
def atan2Zero (y x : Word) : Word := if F32.sign x then F32.withSignOf y Config.piF else y

/-- atan2(y, x) for operands that are no NaN. The zero cases are R115's. PRESUMED: the infinite cases are those
of C99 Annex F (assumption 16). -/
def refAtan2 (y x : Word) : Word :=
  if F32.mag y = 0 then atan2Zero y x
  else if F32.isInf y then
    if F32.isInf x then F32.withSignOf y (if F32.sign x then 0x4016CBE4#32 else 0x3F490FDB#32)
    else F32.withSignOf y Config.hopPhase
  else if F32.isInf x then F32.withSignOf y (if F32.sign x then Config.piF else F32.zero)
  else
    let angle := fixAngle (F32.mag y) (F32.mag x)
    F32.withSignOf y (fixRound (if F32.sign x then ((fixPi - angle : Nat) : Int) else (angle : Int)))

/-! ### The configured functions

An implementation's function is a free function held to the properties R115 states, and to nothing else: its
value is replaced by a fixed one only where it would break them (assumption 5). -/

/-- A value of COS or SIN lies in [-1, 1] (R115). -/
def withinOne (w : Word) : Word :=
  if F32.le (F32.neg F32.one) w && F32.le w F32.one then w else F32.zero

/-- A value of ATAN2 lies in [-PI_F, PI_F] (R115). -/
def withinPi (w : Word) : Word :=
  if F32.le (F32.neg Config.piF) w && F32.le w Config.piF then w else F32.zero

/-- A value of EXP2 is positive (R115). -/
def positive (w : Word) : Word := if F32.lt F32.zero w then w else F32.one

/-- `COS(x)` (R115), in [-1, 1] for every x. The spec states no value for a NaN or infinite x: free within that range
(assumption 6). -/
def F32.cos (cfg : Config.Numerics) (x : Word) : Word :=
  match cfg with
  | .reference => if F32.isFinite x then refCos x else withinOne (Config.cos x)
  | .implementation => withinOne (Config.cos x)

/-- `SIN(x)` (R115), in [-1, 1] for every x. The spec states no value for a NaN or infinite x: free within that range
(assumption 6). -/
def F32.sin (cfg : Config.Numerics) (x : Word) : Word :=
  match cfg with
  | .reference => if F32.isFinite x then refSin x else withinOne (Config.sin x)
  | .implementation => withinOne (Config.sin x)

/-- `EXP2(x)` (R115). The spec states no value for a NaN x: free (assumption 6). PRESUMED: the reference value at an
infinity is the limit, as in C99 Annex F (assumption 22). -/
def F32.exp2 (cfg : Config.Numerics) (x : Word) : Word :=
  if F32.isNaN x then Config.exp2 x
  else
    match cfg with
    | .reference =>
      if F32.isInf x then (if F32.sign x then F32.zero else F32.inf) else refExp2 x
    | .implementation =>
      if F32.mag x = 0 then F32.one
      else if F32.isFinite x then positive (Config.exp2 x)
      else Config.exp2 x

/-- `ATAN2(y, x)` (R115), in [-PI_F, PI_F] for every operand. The spec states no value for a NaN operand: free within
that range (assumption 6). -/
def F32.atan2 (cfg : Config.Numerics) (y x : Word) : Word :=
  if F32.isNaN y || F32.isNaN x then withinPi (Config.atan2 y x)
  else
    match cfg with
    | .reference => refAtan2 y x
    | .implementation => if F32.mag y = 0 then atan2Zero y x else withinPi (Config.atan2 y x)

end Sys2Proof.Machine
end

