-- ==== Sys2Proof/Machine/Operands.lean ====
section
/-! DEFINITION. The operand forms: spans (20_memory.md R70, 42_buffer_primitives.md R151, R152), the channel and
channel-count checks, the clamped f32 parameters (40_numerics.md R110), the envelope lookup (R125) and the
random draws (R127, R128). A u32 operand is the word's `toNat` and an f32 operand the word itself
(30_encoding.md R92, R93). -/

namespace Sys2Proof.Machine

/-! ### Spans -/

/-- A span argument: a byte offset and a word count (R70). -/
structure Span where
  off : Nat
  n : Nat
deriving DecidableEq, Repr

/-- The end of a span's byte range, exclusive, in unbounded integers (R70). -/
def Span.stop (s : Span) : Nat := s.off + 4 * s.n

/-- A span is valid: aligned, and its byte range inside one region (R70). For n = 0 that is an offset inside a
region or at its end. -/
def Span.valid (s : Span) : Bool :=
  decide (s.off % 4 = 0) && regions.any (fun r => decide (r.base ≤ s.off) && decide (s.stop ≤ r.stop))

/-- Two spans overlap: their byte ranges intersect. A span of length 0 overlaps nothing (R152). -/
def Span.overlaps (s t : Span) : Bool :=
  decide (0 < s.n) && decide (0 < t.n) && decide (s.off < t.stop) && decide (t.off < s.stop)

/-- The check of a primitive with one destination and one source of the same length: both valid, and the same
offset or disjoint (R151, R152). -/
def spanPairOk (dst src : Span) : Bool :=
  dst.valid && src.valid && (decide (dst.off = src.off) || !dst.overlaps src)

/-- The check of BUF_INTERLEAVE: the destination overlaps neither source (R152). -/
def interleaveOk (dst srcL srcR : Span) : Bool :=
  dst.valid && srcL.valid && srcR.valid && !dst.overlaps srcL && !dst.overlaps srcR

/-- The check of BUF_DEINTERLEAVE: the source overlaps neither destination, and these not each other (R152). -/
def deinterleaveOk (dstL dstR src : Span) : Bool :=
  dstL.valid && src.valid && dstR.valid && !src.overlaps dstL && !src.overlaps dstR && !dstL.overlaps dstR

/-! ### Clamped parameters (R110) -/

/-- `dryWet`, [0, 1], NaN to 0. -/
def clampDryWet (w : Word) : Word := F32.clampP w F32.zero F32.one F32.zero
/-- `freezeAmount`, [0, 1], NaN to 0. -/
def clampFreeze (w : Word) : Word := F32.clampP w F32.zero F32.one F32.zero
/-- `shiftSemitones`, [-24, 24], NaN to 0. -/
def clampShift (w : Word) : Word := F32.clampP w 0xC1C00000#32 0x41C00000#32 F32.zero
/-- `grainSize`, [1, 192000], NaN to 1. -/
def clampGrainSize (w : Word) : Word := F32.clampP w F32.one 0x483B8000#32 F32.one
/-- `density`, [0.1, 1000], NaN to 0.1 (0.1 is 0x3DCCCCCD, R197). -/
def clampDensity (w : Word) : Word := F32.clampP w 0x3DCCCCCD#32 0x447A0000#32 0x3DCCCCCD#32
/-- `pitchSpread`, [0, 2], NaN to 0. -/
def clampPitchSpread (w : Word) : Word := F32.clampP w F32.zero 0x40000000#32 F32.zero
/-- `position`, [0, 1], NaN to 0. -/
def clampPosition (w : Word) : Word := F32.clampP w F32.zero F32.one F32.zero
/-- `spray`, [0, 1], NaN to 0. -/
def clampSpray (w : Word) : Word := F32.clampP w F32.zero F32.one F32.zero
/-- `threshold`, [0, +infinity], NaN to 0. -/
def clampThreshold (w : Word) : Word := F32.clampP w F32.zero F32.inf F32.zero
/-- `phase`, [0, 0x3F7FFFFF], NaN to 0. -/
def clampPhase (w : Word) : Word := F32.clampP w F32.zero 0x3F7FFFFF#32 F32.zero

/-! ### The envelope (R125) -/

/-- The index of `envLookup(phase)`: the phase clamped, times 1024, floored. -/
def envIndex (phase : Word) : Nat := F32.toIndex (F32.mul (clampPhase phase) 0x44800000#32)

/-- The value of `envLookup(phase)`. -/
def envValue (phase : Word) : Word := envTable (envIndex phase)

/-! ### The generator (R127, R128) -/

/-- One draw: the next generator state, which is also the value drawn (R127). -/
def lcgNext (r : Word) : Word := Config.lcgA * r + Config.lcgC

/-- The unipolar mapping of a drawn value: `f32(r >> 8) * 2^-24` (R128). -/
def unipolarOf (r : Word) : Word := F32.mul (F32.ofNat (r.toNat / 2 ^ 8)) 0x33800000#32

/-- The bipolar mapping of a drawn value: `(2.0 * u) - 1.0` (R128). -/
def bipolarOf (r : Word) : Word := F32.sub (F32.mul 0x40000000#32 (unipolarOf r)) F32.one

end Sys2Proof.Machine
end

