-- ==== Sys2Proof/Machine/Ops.lean ====
section
/-! DEFINITION. The operations the commands and the host's moves share: how a command ends (60_exceptions.md R244,
41_system.md R137), readiness (R136), arena accesses, and the register space (10_state.md R20). -/

namespace Sys2Proof.Machine

/-! ### How a command ends

The core has no traps: a failing command ends with a result code (60_exceptions.md R247). `raiseRC` is the
one operation that every exceptional condition takes. There is no return from it (R248). -/

/-- `raise RC(code)` (R244). -/
def raiseRC (code : ResultCode) (s : State) : State :=
  { s with rc := code, trunc := false, result0 := Config.nullOff, result1 := 0#32 }

/-- `finish(r0, r1)` with the given TRUNC (R137). -/
def finishTrunc (t : Bool) (r0 r1 : Word) (s : State) : State :=
  { s with rc := .ok, trunc := t, result0 := r0, result1 := r1 }

/-- `finish(r0, r1)` with TRUNC = 0 (R137). -/
def finish (r0 r1 : Word) (s : State) : State := finishTrunc false r0 r1 s

/-- The outcome of a step of this machine. -/
abbrev Result := Host.Outcome State Fault Refusal

/-- The readiness check of R136, R137: a command that requires `ready` fails with ERR_NOT_INIT without it. -/
def whenReady (s : State) (run : Result) : Result :=
  if s.ready then run else .next (raiseRC .notInit s)

/-- A check of the command's arguments: the command ends with `code` where it fails (R242). -/
def require (ok : Bool) (code : ResultCode) (s : State) (run : Result) : Result :=
  if ok then run else .next (raiseRC code s)

/-- The core's access to a span that a rule takes to exist. Outside every region it is the model's fault
(assumption 11). -/
def requireDecoded (sp : Span) (run : Result) : Result :=
  if sp.valid then run else .fault (.undecoded sp.off)

/-! ### The arena as the core and the host see it -/

/-- The byte at an offset. -/
def State.readByte (s : State) (a : Nat) : Byte := Arena.byte s.powerCycles s.arena a

/-- `MemRead(off, 4)`. -/
def State.readWord (s : State) (off : Nat) : Word := Arena.word s.powerCycles s.arena off

/-- The words of a span. -/
def State.readSpan (s : State) (sp : Span) : List Word := Arena.words s.powerCycles s.arena sp.off sp.n

/-- `MemWrite(off, 4, w)`. -/
def State.writeWord (s : State) (off : Nat) (w : Word) : State := { s with arena := Arena.writeWord s.arena off w }

/-- Write consecutive words: a move, every bit kept (40_numerics.md R107). -/
def State.writeWords (s : State) (off : Nat) (ws : List Word) : State :=
  { s with arena := Arena.writeWords s.arena off ws }

/-- Write consecutive computed words: the pattern of each NaN is drawn (40_numerics.md R107). -/
def State.writeComputed (s : State) (off : Nat) (ws : List Word) : State :=
  { s with arena := Arena.writeWords s.arena off (F32.settleList s.nanDraws ws), nanDraws := s.nanDraws + ws.length }

/-- The span of the current block in a region: `block_size` words from its base (R64). -/
def State.block (s : State) (r : Region) : Span := ⟨r.base, s.blockSize⟩

/-! ### The register space -/

/-- The register offsets of R20. -/
def offCmd : Nat := 0x00

/-- The number of active grains (R28). -/
def Gran.activeCount (g : Gran) : Nat := g.grains.countP (fun x => x.active)

/-- A register of the register space, read by the host (R20 to R33). Reserved offsets read 0. -/
def State.regRead (s : State) (off : Nat) : Word :=
  if off = 0x00 then s.cmd
  else if off = 0x04 then s.status
  else if off = 0x08 then s.arg0
  else if off = 0x0C then s.arg1
  else if off = 0x10 then s.arg2
  else if off = 0x14 then s.arg3
  else if off = 0x18 then s.arg4
  else if off = 0x1C then s.result0
  else if off = 0x20 then s.result1
  else if off = 0x24 then (if s.ready then s.sampleRate else Config.defaultSr)
  else if off = 0x28 then (if s.ready then BitVec.ofNat 32 s.blockSize else BitVec.ofNat 32 Config.defaultBs)
  else if off = 0x2C then (if s.irLoaded then BitVec.ofNat 32 s.conv.parts else 0#32)
  else if off = 0x30 then BitVec.ofNat 32 s.gran.activeCount
  else if off = 0x34 then (if s.srcLoaded then BitVec.ofNat 32 s.gran.srcFrames else 0#32)
  else if off = 0x38 then (if s.srcLoaded then BitVec.ofNat 32 s.gran.srcChannels else 0#32)
  else if off = 0x3C then s.gran.rng
  else if off = 0x40 then Config.hwId
  else if off = 0x44 then Config.caps0
  else if off = 0x48 then Config.caps1
  else 0#32

/-- A host write to a register other than CMD (R23, R30, R33): ARG0 to ARG4 and RNG_STATE store the word, every
other offset ignores it. -/
def State.regWrite (s : State) (off : Nat) (w : Word) : State :=
  if off = 0x08 then { s with arg0 := w }
  else if off = 0x0C then { s with arg1 := w }
  else if off = 0x10 then { s with arg2 := w }
  else if off = 0x14 then { s with arg3 := w }
  else if off = 0x18 then { s with arg4 := w }
  else if off = 0x3C then { s with gran := { s.gran with rng := w } }
  else s

end Sys2Proof.Machine
end

