-- ==== Sys2Proof/Machine/Buffer.lean ====
section
/-! DEFINITION. The buffer primitives (42_buffer_primitives.md). Every accepted command's result does not depend on
the order of its elements (R152), so a primitive reads its source spans, computes every element by its
scalar rule (40_numerics.md R112), and writes its destination. -/

namespace Sys2Proof.Machine

/-! ### Operands (30_encoding.md R91) -/

/-- The destination span (ARG0, ARG2). -/
def dstSpan (s : State) : Span := ⟨s.arg0.toNat, s.arg2.toNat⟩

/-- The source span (ARG1, ARG2). -/
def srcSpan (s : State) : Span := ⟨s.arg1.toNat, s.arg2.toNat⟩

/-- The span named by ARG3 (ARG3, ARG2): srcR of BUF_INTERLEAVE, dstR of BUF_DEINTERLEAVE. -/
def thirdSpan (s : State) : Span := ⟨s.arg3.toNat, s.arg2.toNat⟩

/-- A span's doubled form: the interleaved side (R151). -/
def Span.doubled (sp : Span) : Span := ⟨sp.off, 2 * sp.n⟩

/-! ### The two shapes of an element-wise primitive -/

/-- A primitive with one destination and one source whose elements are computed: checks, then `f` of the
source words and the destination words, each NaN drawn (R151, R152, R154). -/
def computeSpan (s : State) (f : List Word → List Word → List Word) : Result :=
  whenReady s
    (require (spanPairOk (dstSpan s) (srcSpan s)) .badSpan s
      (.next (finish 0#32 0#32
        (s.writeComputed (dstSpan s).off (f (s.readSpan (srcSpan s)) (s.readSpan (dstSpan s)))))))

/-- The same with elements that are moved or exact, so that no NaN is drawn. -/
def moveSpan (s : State) (f : List Word → List Word) : Result :=
  whenReady s
    (require (spanPairOk (dstSpan s) (srcSpan s)) .badSpan s
      (.next (finish 0#32 0#32 (s.writeWords (dstSpan s).off (f (s.readSpan (srcSpan s)))))))

/-! ### Scalar rules -/

/-- BUF_MIX's element: product, then sum, each rounded (R157). -/
def mixElem (g x d : Word) : Word := F32.add d (F32.mul x g)

/-- BUF_GAIN_RAMP's gain at index i: `g0 + (d * (f32(i) / nf))` (R162). -/
def rampGain (g0 d nf : Word) (i : Nat) : Word := F32.add g0 (F32.mul d (F32.div (F32.ofNat i) nf))

/-- BUF_GAIN_RAMP's elements (R162). -/
def rampSpan (g0 g1 : Word) (n : Nat) (xs : List Word) : List Word :=
  xs.zipIdx.map (fun p => F32.mul p.1 (rampGain g0 (F32.sub g1 g0) (F32.ofNat n) p.2))

/-- BUF_SOFT_CLIP's element (R163). -/
def softClipElem (x : Word) : Word :=
  if F32.isNaN x then x
  else if F32.lt F32.one x then F32.one
  else if F32.lt x (F32.neg F32.one) then F32.neg F32.one
  else F32.sub (F32.mul 0x3FC00000#32 x) (F32.mul 0x3F000000#32 (F32.mul (F32.mul x x) x))

/-- BUF_HARD_CLIP's element (R164). -/
def hardClipElem (t x : Word) : Word :=
  if F32.lt t x then t else if F32.lt x (F32.neg t) then F32.neg t else x

/-- BUF_DC_REMOVE's sum: sequential, in index order, from +0.0 (R165). -/
def seqSum (xs : List Word) : Word := xs.foldl F32.add F32.zero

/-- BUF_DC_REMOVE's elements (R165). -/
def dcRemoved (xs : List Word) : List Word :=
  let m := F32.div (seqSum xs) (F32.ofNat xs.length)
  xs.map (fun x => F32.sub x m)

/-- BUF_FIND_PEAK's maximum: a NaN never compares greater (R166). -/
def peakOf (xs : List Word) : Word :=
  xs.foldl (fun p x => if F32.lt p (F32.abs x) then F32.abs x else p) F32.zero

/-! ### The meanings -/

/-- BUF_SCALE (R155). -/
def execBufScale (s : State) : Result :=
  computeSpan s (fun src _ => src.map (fun x => F32.mul x s.arg3))

/-- BUF_ADD (R156). -/
def execBufAdd (s : State) : Result :=
  computeSpan s (fun src dst => List.zipWith F32.add dst src)

/-- BUF_MIX (R157). -/
def execBufMix (s : State) : Result :=
  computeSpan s (fun src dst => List.zipWith (mixElem s.arg3) src dst)

/-- BUF_COPY (R158). -/
def execBufCopy (s : State) : Result := moveSpan s (fun src => src)

/-- BUF_CLEAR (R159). -/
def execBufClear (s : State) : Result :=
  whenReady s
    (require (dstSpan s).valid .badSpan s
      (.next (finish 0#32 0#32 (s.writeWords (dstSpan s).off (List.replicate (dstSpan s).n F32.zero)))))

/-- BUF_INTERLEAVE (R160). -/
def execBufInterleave (s : State) : Result :=
  whenReady s
    (require (interleaveOk (dstSpan s).doubled (srcSpan s) (thirdSpan s)) .badSpan s
      (.next (finish 0#32 0#32
        (s.writeWords (dstSpan s).off
          ((List.range (srcSpan s).n).flatMap (fun i =>
            [s.readWord ((srcSpan s).off + 4 * i), s.readWord ((thirdSpan s).off + 4 * i)]))))))

/-- BUF_DEINTERLEAVE (R161). -/
def execBufDeinterleave (s : State) : Result :=
  whenReady s
    (require (deinterleaveOk (dstSpan s) (thirdSpan s) (srcSpan s).doubled) .badSpan s
      (.next (finish 0#32 0#32
        ((s.writeWords (dstSpan s).off
            ((List.range (dstSpan s).n).map (fun i => s.readWord ((srcSpan s).off + 8 * i)))).writeWords
          (thirdSpan s).off
            ((List.range (dstSpan s).n).map (fun i => s.readWord ((srcSpan s).off + 8 * i + 4)))))))

/-- BUF_GAIN_RAMP (R162). -/
def execBufGainRamp (s : State) : Result :=
  computeSpan s (fun src _ => rampSpan s.arg3 s.arg4 (srcSpan s).n src)

/-- BUF_SOFT_CLIP (R163). -/
def execBufSoftClip (s : State) : Result := moveSpan s (fun src => src.map softClipElem)

/-- BUF_HARD_CLIP (R164). -/
def execBufHardClip (s : State) : Result :=
  moveSpan s (fun src => src.map (hardClipElem (clampThreshold s.arg3)))

/-- BUF_DC_REMOVE (R165). With n = 0 it writes nothing. -/
def execBufDcRemove (s : State) : Result := computeSpan s (fun src _ => dcRemoved src)

/-- BUF_FIND_PEAK (R166). -/
def execBufFindPeak (s : State) : Result :=
  whenReady s
    (require (srcSpan s).valid .badSpan s
      (.next (finish (peakOf (s.readSpan (srcSpan s))) 0#32 s)))

/-- ENV_LOOKUP (R167). -/
def execEnvLookup (s : State) : Result :=
  whenReady s (.next (finish (envValue s.arg3) (BitVec.ofNat 32 (envIndex s.arg3)) s))

end Sys2Proof.Machine
end

