-- ==== Sys2Proof/Machine/System.lean ====
section
/-! DEFINITION. The system and arena commands (41_system.md). -/

namespace Sys2Proof.Machine

/-! ### Engine resets the commands share -/

/-- A channel of the convolution engine with its history cleared: `live` FDL slots of zeros, zero tail, zero
input (43_convolution.md R178). -/
def clearedConvChan (live : Nat) : ConvChan :=
  { fdl := List.replicate live (List.replicate Config.nc C32.zero), input := List.replicate Config.hc F32.zero,
    tail := List.replicate Config.nc F32.zero }

/-- `conv_clear_history()` (R178). `ir_spec` and `conv_P` are kept. -/
def convClearHistory (c : Conv) : Conv :=
  { c with left := clearedConvChan c.parts, right := clearedConvChan c.parts, fill := 0, pos := 0 }

/-- `spec_clear()` (45_spectral.md R216): every buffer and tracker +0.0, the freeze flags and the fill 0. -/
def specClear : Spec := Spec.zero

/-! ### The meanings -/

/-- NOP (R138). -/
def execNop (s : State) : Result := .next (finish 0#32 0#32 s)

/-- INIT's check of the sample rate: 8000.0 <= sr <= 192000.0, false for a NaN (R139). -/
def rateOk (sr : Word) : Bool := F32.le Config.srMin sr && F32.le sr Config.srMax

/-- INIT's check of the block size: 32 <= bs <= 1024 (R139). -/
def blockOk (bs : Word) : Bool := decide (Config.bsMin ≤ bs.toNat) && decide (bs.toNat ≤ Config.bsMax)

/-- What a successful INIT writes (R139): the configuration, the zeroed regions, every engine reset, `ready`. -/
def initialised (sr bs : Word) (s : State) : State :=
  { s with
    sampleRate := sr
    blockSize := bs.toNat
    arena := Arena.clearIo s.arena
    irLoaded := false
    conv := convClearHistory { s.conv with parts := 0, irSpec := [] }
    srcLoaded := false
    gran := { grains := List.replicate Config.grainPool Grain.zero, acc := F32.zero, rng := Config.lcgSeed,
              srcFrames := 0, srcChannels := 0 }
    spec := specClear
    ready := true }

/-- INIT (R139): the rate is checked before the block size. -/
def execInit (s : State) : Result :=
  require (rateOk s.arg0) .badRate s
    (require (blockOk s.arg1) .badBlock s
      (.next (finish 0#32 0#32 (initialised s.arg0 s.arg1 s))))

/-- CLEANUP (R141). -/
def execCleanup (s : State) : Result :=
  .next (finish 0#32 0#32 { s with ready := false, irLoaded := false, srcLoaded := false })

/-- The view of one of two regions by channel (R142, R143): its base and `block_size`. -/
def bufferView (r0 r1 : Region) (s : State) : Result :=
  whenReady s
    (require (decide (s.arg0.toNat < Config.nCh)) .badChannel s
      (.next (finish (BitVec.ofNat 32 (if s.arg0.toNat = 0 then r0.base else r1.base)) (BitVec.ofNat 32 s.blockSize) s)))

/-- GET_INPUT_BUFFER (R142). -/
def execGetInputBuffer (s : State) : Result := bufferView regionInL regionInR s

/-- GET_OUTPUT_BUFFER (R143). -/
def execGetOutputBuffer (s : State) : Result := bufferView regionOutL regionOutR s

end Sys2Proof.Machine
end

