-- ==== Sys2Proof/Machine/Convolution.lean ====
section
/-! DEFINITION. The convolution engine (43_convolution.md). A computed value that is stored, or handed to a
configured transform, has the pattern of its NaN drawn first: the functions below take the next draw index
`d` and answer the next one (40_numerics.md R107, assumption 8). -/

namespace Sys2Proof.Machine

/-! ### Loading an impulse response (R176, R177) -/

/-- The frames kept at most by the region: IR_CAP_WORDS div ch (R176). -/
def irCapFrames (ch : Nat) : Nat := Config.irCapWords / ch

/-- `P`: the partitions of an IR of `len` frames in `ch` channels (R176). -/
def irPartitions (len ch : Nat) : Nat := min ((min len (irCapFrames ch) + (Config.hc - 1)) / Config.hc) Config.pMax

/-- `len2`: the frames kept (R176). -/
def irFramesKept (len ch : Nat) : Nat := min (min len (irCapFrames ch)) (irPartitions len ch * Config.hc)

/-- Frame i of a stereo region: `(L + R) * 0.5` (R177, 44_granular.md R200). -/
def stereoFrame (s : State) (base i : Nat) : Word :=
  F32.mul (F32.add (s.readWord (base + 8 * i)) (s.readWord (base + 8 * i + 4))) 0x3F000000#32

/-- `m[0..len2)`, the downmixed impulse response (R176, R177). A mono one is moved, a stereo one computed. -/
def irFrames (s : State) (ch n : Nat) : List Word :=
  if ch = 1 then (List.range n).map (fun i => s.readWord (regionIr.base + 4 * i))
  else F32.settleList s.nanDraws ((List.range n).map (fun i => stereoFrame s regionIr.base i))

/-- Values 0..NC of a sub-block entering the transform: HC real values, then zeros (R176, R180). -/
def paddedBlock (xs : List Word) : Spectrum :=
  tabulate Config.nc (fun k => if k < Config.hc then C32.ofReal (xs.getD k F32.zero) else C32.zero)

/-- A transform's result as it is stored: NC values, two draw indices each. -/
def storedSpectrum (d : Nat) (z : Spectrum) : Spectrum := C32.settleList d z

/-- `ir_spec[p]` for p in 0..P (R176): each partition's spectrum, 2 NC draw indices each. -/
def irSpectra (cfg : Config.Numerics) (m : List Word) (d : Nat) (parts : Nat) : List Spectrum :=
  tabulate parts (fun p =>
    storedSpectrum (d + p * (2 * Config.nc)) (fft cfg Config.nc (paddedBlock (m.drop (p * Config.hc)))))

/-- What CONV_LOAD_IR writes for `len` frames of `ch` channels (R176). -/
def irLoadedState (s : State) (len ch : Nat) : State :=
  let parts := irPartitions len ch
  let kept := irFramesKept len ch
  let d := s.nanDraws + kept
  { s with
    conv := convClearHistory
      { s.conv with parts := parts, irSpec := irSpectra s.numerics (irFrames s ch kept) d parts }
    irLoaded := decide (0 < parts)
    nanDraws := d + parts * (2 * Config.nc) }

/-- A channel count is 1 or 2 (R176, 44_granular.md R196). -/
def channelCountOk (w : Word) : Bool := decide (w.toNat = 1) || decide (w.toNat = 2)

/-- CONV_LOAD_IR (R176). -/
def execConvLoadIr (s : State) : Result :=
  whenReady s
    (require (channelCountOk s.arg1) .badChannelCount s
      (.next (finishTrunc (decide (irFramesKept s.arg0.toNat s.arg1.toNat < s.arg0.toNat))
        (BitVec.ofNat 32 (irFramesKept s.arg0.toNat s.arg1.toNat))
        (BitVec.ofNat 32 (irPartitions s.arg0.toNat s.arg1.toNat))
        (irLoadedState s s.arg0.toNat s.arg1.toNat))))

/-! ### Processing (R179, R180) -/

/-- A spectrum of zeros. -/
def zeroSpectrum : Spectrum := List.replicate Config.nc C32.zero

/-- One term of the partition sum: `S[k] + fdl[c][s][k] * ir_spec[p][k]` for every k (R180). -/
def spectrumMac (sum x h : Spectrum) : Spectrum :=
  tabulate Config.nc (fun k =>
    C32.add (sum.getD k C32.zero) (C32.mul (x.getD k C32.zero) (h.getD k C32.zero)))

/-- The partition sum S, ascending p, slot `(position - p) mod partitionCount` (R180). -/
def partitionSum (parts pos : Nat) (fdl irSpec : List Spectrum) : Spectrum :=
  (List.range parts).foldl
    (fun sum p => spectrumMac sum (fdl.getD ((pos + parts - p) % parts) zeroSpectrum) (irSpec.getD p zeroSpectrum))
    zeroSpectrum

/-- The new tail before the draws: shifted left by HC, zero-filled, the inverse transform scaled and added (R180). -/
def overlapTail (tail : List Word) (z : Spectrum) : List Word :=
  tabulate Config.nc (fun i =>
    F32.add (if i < Config.nc - Config.hc then tail.getD (i + Config.hc) F32.zero else F32.zero)
      (F32.mul (z.getD i C32.zero).re Config.invNc))

/-- Draw indices one `conv_subblock` uses: the new FDL slot, the sum, the tail. -/
def subblockDraws : Nat := 2 * Config.nc + 2 * Config.nc + Config.nc

/-- `conv_subblock(c)` (R180) for one channel of the engine. -/
def convSubblock (cfg : Config.Numerics) (c : Conv) (ch : ConvChan) (d : Nat) : ConvChan :=
  let fdl := ch.fdl.set c.pos (storedSpectrum d (fft cfg Config.nc (paddedBlock ch.input)))
  let sum := storedSpectrum (d + 2 * Config.nc) (partitionSum c.parts c.pos fdl c.irSpec)
  let z := ifft cfg Config.nc sum
  { ch with fdl := fdl, tail := F32.settleList (d + 4 * Config.nc) (overlapTail ch.tail z) }

/-- One channel at one sample: the input word enters the sub-block (R179). -/
def convPush (fill : Nat) (x : Word) (ch : ConvChan) : ConvChan := { ch with input := ch.input.set fill x }

/-- The output of one channel at one sample: `(dry * x) + (wet * y)` (R179). -/
def convOut (dry wet : Word) (fill : Nat) (x : Word) (ch : ConvChan) : Word :=
  F32.add (F32.mul dry x) (F32.mul wet (ch.tail.getD fill F32.zero))

/-- When HC samples have arrived: both channels' sub-block steps, then the position advances (R179). -/
def convEndSample (cfg : Config.Numerics) (c : Conv) (d : Nat) : Conv × Nat :=
  if c.fill + 1 = Config.hc then
    ({ c with
        left := convSubblock cfg c c.left d
        right := convSubblock cfg c c.right (d + subblockDraws)
        pos := (c.pos + 1) % c.parts
        fill := 0 }, d + 2 * subblockDraws)
  else ({ c with fill := c.fill + 1 }, d)

/-- One sample of both channels after its outputs are taken (R179). -/
def convSample (cfg : Config.Numerics) (c : Conv) (xl xr : Word) (d : Nat) : Conv × Nat :=
  convEndSample cfg { c with left := convPush c.fill xl c.left, right := convPush c.fill xr c.right } d

/-- The result of processing a run of samples: the outputs of both channels, the engine, the next draw. -/
structure ConvRun where
  outL : List Word
  outR : List Word
  conv : Conv
  draws : Nat

/-- The samples of a block, in order (R179). -/
def convBlock (cfg : Config.Numerics) (dry wet : Word) : List (Word × Word) → Conv → Nat → ConvRun
  | [], c, d => { outL := [], outR := [], conv := c, draws := d }
  | (xl, xr) :: rest, c, d =>
    let yl := F32.settle d (convOut dry wet c.fill xl c.left)
    let yr := F32.settle (d + 1) (convOut dry wet c.fill xr c.right)
    let next := convSample cfg c xl xr (d + 2)
    let run := convBlock cfg dry wet rest next.1 next.2
    { run with outL := yl :: run.outL, outR := yr :: run.outR }

/-- The input block: sample t of IN_L and IN_R (R179). -/
def inputBlock (s : State) : List (Word × Word) :=
  List.zip (s.readSpan (s.block regionInL)) (s.readSpan (s.block regionInR))

/-- Write one block of both outputs (R179). The words are stored as given. -/
def writeOutputs (s : State) (outL outR : List Word) : State :=
  (s.writeWords regionOutL.base outL).writeWords regionOutR.base outR

/-- The access of a process command to its blocks (assumption 11). -/
def requireBlocks (s : State) (run : Result) : Result := requireDecoded (s.block regionOutL) run

/-- The pass-through of CONV_PROCESS without an IR: a bit copy, no state touched (R175, R179). -/
def convPassThrough (s : State) : State :=
  writeOutputs s (s.readSpan (s.block regionInL)) (s.readSpan (s.block regionInR))

/-- CONV_PROCESS with an IR (R179). -/
def convProcessed (s : State) : State :=
  let wet := clampDryWet s.arg0
  let run := convBlock s.numerics (F32.sub F32.one wet) wet (inputBlock s) s.conv s.nanDraws
  { writeOutputs s run.outL run.outR with conv := run.conv, nanDraws := run.draws }

/-- CONV_PROCESS (R179). -/
def execConvProcess (s : State) : Result :=
  whenReady s
    (requireBlocks s
      (.next (finish 0#32 0#32 (if s.irLoaded then convProcessed s else convPassThrough s))))

/-- CONV_RESET (R183). -/
def execConvReset (s : State) : Result :=
  whenReady s (.next (finish 0#32 0#32 { s with conv := convClearHistory s.conv }))

end Sys2Proof.Machine
end

