-- ==== Sys2Proof/Machine/Granular.lean ====
section
/-! DEFINITION. The granular engine (44_granular.md). Stored values draw the patterns of their NaNs as in the
convolution engine (assumption 8). -/

namespace Sys2Proof.Machine

/-! ### Loading a source (R196) -/

/-- `F`: the frames kept of `len` frames in `ch` channels (R196). -/
def srcFramesKept (len ch : Nat) : Nat := min len (Config.srcCapWords / ch)

/-- Every grain deactivated, its other fields kept (R196, R205, 10_state.md R40). -/
def silenced (grains : List Grain) : List Grain := grains.map (fun g => { g with active := false })

/-- What GRAN_LOAD_SOURCE writes (R196). The generator is not reset. -/
def srcLoadedState (s : State) (len ch : Nat) : State :=
  { s with
    gran := { s.gran with grains := silenced s.gran.grains, acc := F32.zero, srcFrames := srcFramesKept len ch,
                          srcChannels := ch }
    srcLoaded := decide (0 < srcFramesKept len ch) }

/-- GRAN_LOAD_SOURCE (R196). -/
def execGranLoadSource (s : State) : Result :=
  whenReady s
    (require (channelCountOk s.arg1) .badChannelCount s
      (.next (finishTrunc (decide (srcFramesKept s.arg0.toNat s.arg1.toNat < s.arg0.toNat))
        (BitVec.ofNat 32 (srcFramesKept s.arg0.toNat s.arg1.toNat)) s.arg1
        (srcLoadedState s s.arg0.toNat s.arg1.toNat))))

/-! ### Parameters (R197) -/

/-- The parameters of one GRAN_PROCESS, computed once. -/
structure GranParams where
  interval : Word
  dur : Nat
  norm : Word
  pitchSpread : Word
  position : Word
  spray : Word
deriving DecidableEq, Repr

/-- `max(1.0, v)` (R197). -/
def atLeastOne (v : Word) : Word := if F32.lt v F32.one then F32.one else v

/-- The parameters from ARG0 to ARG4 and `sample_rate` (R197). -/
def granParams (s : State) : GranParams :=
  let gs := clampGrainSize s.arg0
  let dens := clampDensity s.arg1
  { interval := F32.div s.sampleRate dens
    dur := F32.toIndex (F32.floor gs)
    norm := F32.div F32.one (F32.sqrt (atLeastOne (F32.div (F32.mul dens gs) s.sampleRate)))
    pitchSpread := clampPitchSpread s.arg2
    position := clampPosition s.arg3
    spray := clampSpray s.arg4 }

/-! ### Spawning (R199, R201) -/

/-- The record of a grain spawned from the generator state `r` (R201): four draws, position, rate, pan and
amplitude in this order. -/
def spawnedGrain (cfg : Config.Numerics) (p : GranParams) (r : Word) : Grain :=
  let r1 := lcgNext r
  let r2 := lcgNext r1
  let r3 := lcgNext r2
  let r4 := lcgNext r3
  { active := true
    pos := F32.clampP (F32.add p.position (F32.mul p.spray (bipolarOf r1))) F32.zero F32.one F32.zero
    phase := F32.zero
    rate := F32.exp2 cfg (F32.mul p.pitchSpread (bipolarOf r2))
    amp := F32.add Config.ampMin (F32.mul Config.ampSpan (unipolarOf r4))
    dur := p.dur
    pan := F32.mul Config.panWidth (bipolarOf r3) }

/-- The generator state after the four draws of a spawn (R201). -/
def lcgAfterSpawn (r : Word) : Word := lcgNext (lcgNext (lcgNext (lcgNext r)))

/-- `gran_spawn()` (R201): the first inactive grain in pool order is activated. With a full pool nothing happens
and nothing is drawn. -/
def granSpawn (cfg : Config.Numerics) (p : GranParams) (g : Gran) : Gran :=
  match g.grains.findIdx? (fun x => !x.active) with
  | none => g
  | some i => { g with grains := g.grains.set i (spawnedGrain cfg p g.rng), rng := lcgAfterSpawn g.rng }

/-- The accumulator advances by one sample. When it has reached the interval, the interval is subtracted once
and one spawn is attempted (R199). -/
def granTick (cfg : Config.Numerics) (p : GranParams) (g : Gran) (d : Nat) : Gran :=
  let acc := F32.add g.acc F32.one
  if F32.le p.interval acc then granSpawn cfg p { g with acc := F32.settle d (F32.sub acc p.interval) }
  else { g with acc := F32.settle d acc }

/-! ### Rendering (R200, R202, R203) -/

/-- `srcRead(i)` (R200). -/
def srcRead (s : State) (g : Gran) (i : Nat) : Word :=
  if g.srcChannels = 1 then s.readWord (regionSrc.base + 4 * i) else stereoFrame s regionSrc.base i

/-- `v` of `gran_render`: the interpolated source times the envelope times the amplitude (R203). -/
def grainVoice (s : State) (g : Gran) (x : Grain) : Word :=
  let idx := F32.mul x.pos (F32.ofNat g.srcFrames)
  let i0 := min (F32.toIndex (F32.floor idx)) (g.srcFrames - 1)
  let i1 := min (i0 + 1) (g.srcFrames - 1)
  let v := F32.lerp (srcRead s g i0) (srcRead s g i1) (F32.sub idx (F32.ofNat i0))
  F32.mul (F32.mul v (envValue x.phase)) x.amp

/-- `pn` of `gran_render`: `(pan + 1.0) * 0.5` (R203). -/
def grainPan (x : Grain) : Word := F32.mul (F32.add x.pan F32.one) 0x3F000000#32

/-- `gran_advance(g)` (R202). -/
def grainAdvance (srcFrames d : Nat) (x : Grain) : Grain :=
  let pos := F32.settle d (F32.add x.pos (F32.div x.rate (F32.ofNat srcFrames)))
  let phase := F32.settle (d + 1) (F32.add x.phase (F32.div F32.one (F32.ofNat x.dur)))
  { x with pos := pos, phase := phase, active := !(F32.le F32.one phase || F32.le F32.one pos) }

/-- The pool after one sample, the mix of both channels, the next draw. -/
structure MixRun where
  grains : List Grain
  l : Word
  r : Word
  draws : Nat

/-- Every active grain in pool order is rendered into (L, R), then advanced (R198). -/
def granMix (s : State) (g : Gran) : List Grain → Word → Word → Nat → MixRun
  | [], l, r, d => { grains := [], l := l, r := r, draws := d }
  | x :: xs, l, r, d =>
    if x.active then
      let v := grainVoice s g x
      let pn := grainPan x
      let run := granMix s g xs (F32.add l (F32.mul v (F32.sqrt (F32.sub F32.one pn))))
        (F32.add r (F32.mul v (F32.sqrt pn))) (d + 2)
      { run with grains := grainAdvance g.srcFrames d x :: run.grains }
    else
      let run := granMix s g xs l r d
      { run with grains := x :: run.grains }

/-- The result of synthesising a run of samples: both outputs, the engine, the next draw. -/
structure GranRun where
  outL : List Word
  outR : List Word
  gran : Gran
  draws : Nat

/-- The samples of a block (R198). `s` gives the source words and the configuration. -/
def granBlock (s : State) (p : GranParams) : Nat → Gran → Nat → GranRun
  | 0, g, d => { outL := [], outR := [], gran := g, draws := d }
  | n + 1, g, d =>
    let g1 := granTick s.numerics p g d
    let mix := granMix s g1 g1.grains F32.zero F32.zero (d + 1)
    let run := granBlock s p n { g1 with grains := mix.grains } (mix.draws + 2)
    { run with
      outL := F32.settle mix.draws (F32.mul mix.l p.norm) :: run.outL
      outR := F32.settle (mix.draws + 1) (F32.mul mix.r p.norm) :: run.outR }

/-- The words of the loaded source: `src_frames * src_channels` from the base of SRC (20_memory.md R64). -/
def State.sourceSpan (s : State) : Span := ⟨regionSrc.base, s.gran.srcFrames * s.gran.srcChannels⟩

/-- GRAN_PROCESS without a source: silence, no state touched (R204). -/
def granSilence (s : State) : State :=
  writeOutputs s (List.replicate s.blockSize F32.zero) (List.replicate s.blockSize F32.zero)

/-- GRAN_PROCESS with a source (R198). -/
def granProcessed (s : State) : State :=
  let run := granBlock s (granParams s) s.blockSize s.gran s.nanDraws
  { writeOutputs s run.outL run.outR with gran := run.gran, nanDraws := run.draws }

/-- GRAN_PROCESS (R198). -/
def execGranProcess (s : State) : Result :=
  whenReady s
    (requireBlocks s
      (if s.srcLoaded then requireDecoded s.sourceSpan (.next (finish 0#32 0#32 (granProcessed s)))
       else .next (finish 0#32 0#32 (granSilence s))))

/-- GRAN_RESET (R205). -/
def execGranReset (s : State) : Result :=
  whenReady s
    (.next (finish 0#32 0#32
      { s with gran := { s.gran with grains := silenced s.gran.grains, acc := F32.zero } }))

end Sys2Proof.Machine
end

