-- ==== Sys2Proof/Machine/Spectral.lean ====
section
/-! DEFINITION. The spectral engine (45_spectral.md). Stored values, and values handed to a configured function,
draw the patterns of their NaNs as in the convolution engine (assumption 8). -/

namespace Sys2Proof.Machine

/-! ### Parameters (R218) -/

/-- The parameters of one SPEC_PROCESS, computed once. -/
structure SpecParams where
  /-- `fa`, the freeze amount. -/
  freeze : Word
  /-- `r`, the shift ratio. -/
  ratio : Word
  /-- `shift_active`. -/
  shiftActive : Bool
deriving DecidableEq, Repr

/-- The parameters from ARG0 and ARG1 (R218). -/
def specParams (s : State) : SpecParams :=
  let r := F32.exp2 s.numerics (F32.div (clampShift s.arg1) 0x41400000#32)
  { freeze := clampFreeze s.arg0
    ratio := r
    shiftActive := F32.lt Config.shiftEps (F32.abs (F32.sub r F32.one)) }

/-- `r_eff` (R218). -/
def SpecParams.effectiveRatio (p : SpecParams) : Word := if p.shiftActive then p.ratio else F32.one

/-! ### One frame, step by step -/

/-- Magnitude and phase of the bins 0..KS. -/
structure Polar where
  mag : List Word
  phase : List Word
deriving DecidableEq, Repr

/-- The windowed analysis frame: `spec_in[c][n] * WIN[n]` (R219). -/
def windowed (inBuf : List Word) : List Word :=
  tabulate Config.ns (fun n => F32.mul (inBuf.getD n F32.zero) (hannWindow n))

/-- The spectrum X of a frame (R219): NS draw indices for the input, 2 NS for the result. -/
def analysisSpectrum (cfg : Config.Numerics) (inBuf : List Word) (d : Nat) : List C32 :=
  C32.settleList (d + Config.ns)
    (fft cfg Config.ns ((F32.settleList d (windowed inBuf)).map C32.ofReal))

/-- The magnitude of a bin (R219). -/
def binMag (z : C32) : Word := F32.sqrt (F32.add (F32.mul z.re z.re) (F32.mul z.im z.im))

/-- Magnitude and phase of every bin of X (R219): KS draw indices each. -/
def toPolar (cfg : Config.Numerics) (x : List C32) (d : Nat) : Polar :=
  { mag := F32.settleList d (tabulate Config.ks (fun k => binMag (x.getD k C32.zero)))
    phase := F32.settleList (d + Config.ks)
      (tabulate Config.ks (fun k => F32.atan2 cfg (x.getD k C32.zero).im (x.getD k C32.zero).re)) }

/-- Capture of the snapshot, when the channel is not frozen yet (R220, R222). -/
def captured (ch : SpecChan) (m : Polar) : SpecChan :=
  if ch.frozen then ch else { ch with frozenMag := m.mag, frozenPhase := m.phase, frozen := true }

/-- The blend toward the snapshot of a channel (R220): KS draw indices each for magnitude and phase. -/
def frozenBlend (fa : Word) (ch : SpecChan) (m : Polar) (d : Nat) : Polar :=
  { mag := F32.settleList d
      (tabulate Config.ks (fun k => F32.lerp (m.mag.getD k F32.zero) (ch.frozenMag.getD k F32.zero) fa))
    phase := F32.settleList (d + Config.ks)
      (tabulate Config.ks (fun k =>
        F32.lerp (m.phase.getD k F32.zero) (ch.frozenPhase.getD k F32.zero) (F32.mul Config.freezePhaseK fa))) }

/-- The freeze step (R220), which runs when fa > 0.0. -/
def freezeStep (fa : Word) (ch : SpecChan) (m : Polar) (d : Nat) : SpecChan × Polar :=
  if F32.lt F32.zero fa then (captured ch m, frozenBlend fa (captured ch m) m d) else (ch, m)

/-- One destination bin of the shift (R221): linear interpolation at `f32(d) / r`, silent beyond bin 1024. -/
def shiftedBin (r : Word) (xs : List Word) (dest : Nat) : Word :=
  let sb := F32.div (F32.ofNat dest) r
  if F32.lt (F32.ofNat 1024) sb then F32.zero
  else
    let i0 := min (F32.toIndex (F32.floor sb)) 1023
    F32.lerp (xs.getD i0 F32.zero) (xs.getD (i0 + 1) F32.zero) (F32.sub sb (F32.ofNat i0))

/-- The shift step (R221), which runs when the shift is active: KS draw indices each for magnitude and phase. -/
def shiftStep (p : SpecParams) (m : Polar) (d : Nat) : Polar :=
  if p.shiftActive then
    { mag := F32.settleList d (tabulate Config.ks (shiftedBin p.ratio m.mag))
      phase := F32.settleList (d + Config.ks) (tabulate Config.ks (shiftedBin p.ratio m.phase)) }
  else m

/-- The phase vocoder's new synthesis phase of bin k (R223). -/
def vocodedPhase (rEff : Word) (k : Nat) (prev synth phase : Word) : Word :=
  let advance := F32.mul (F32.ofNat k) Config.hopPhase
  let dev := F32.wrapPi (F32.sub phase (F32.add prev advance))
  F32.wrapPi (F32.add synth (F32.mul (F32.add advance dev) rEff))

/-- The new synthesis phases (R223): KS draw indices. -/
def vocoded (rEff : Word) (ch : SpecChan) (phase : List Word) (d : Nat) : List Word :=
  F32.settleList d
    (tabulate Config.ks (fun k =>
      vocodedPhase rEff k (ch.prevPhase.getD k F32.zero) (ch.synthPhase.getD k F32.zero) (phase.getD k F32.zero)))

/-- Bin k of the resynthesis spectrum for k in 0..KS (R224): DC and Nyquist are real. -/
def resynthBin (cfg : Config.Numerics) (mag synth : List Word) (k : Nat) : C32 :=
  let m := mag.getD k F32.zero
  let ph := synth.getD k F32.zero
  { re := F32.mul m (F32.cos cfg ph)
    im := if k = 0 ∨ k = Config.ns / 2 then F32.zero else F32.mul m (F32.sin cfg ph) }

/-- The conjugate-symmetric spectrum Y (R224): 2 KS draw indices, the upper bins are the lower ones' conjugates. -/
def resynthSpectrum (cfg : Config.Numerics) (mag synth : List Word) (d : Nat) : List C32 :=
  let lower := C32.settleList d (tabulate Config.ks (resynthBin cfg mag synth))
  tabulate Config.ns (fun k =>
    if k < Config.ks then lower.getD k C32.zero else C32.conj (lower.getD (Config.ns - k) C32.zero))

/-- The output frame `o[n]`: windowed again and scaled (R224). -/
def resynthFrame (cfg : Config.Numerics) (y : List C32) : List Word :=
  let z := ifft cfg Config.ns y
  tabulate Config.ns (fun n => F32.mul (F32.mul (z.getD n C32.zero).re (hannWindow n)) Config.specOutScale)

/-- `spec_out[c]` after the overlap-add (R225): shifted left by HS, zero-filled, the frame added at 0..NS. Only
the words the frame is added to are computed: NS draw indices. -/
def overlapRing (ring o : List Word) (d : Nat) : List Word :=
  F32.settleList d
    (tabulate Config.ns (fun n => F32.add (ring.getD (n + Config.hs) F32.zero) (o.getD n F32.zero))) ++
  tabulate (Config.outRing - Config.ns) (fun j =>
    if j + Config.ns < Config.outRing - Config.hs then ring.getD (j + Config.ns + Config.hs) F32.zero else F32.zero)

/-- `spec_in[c]` after its shift left by HS (R225). -/
def shiftedInput (inBuf : List Word) : List Word :=
  tabulate Config.ns (fun n => if n < Config.ns - Config.hs then inBuf.getD (n + Config.hs) F32.zero else F32.zero)

/-- Draw indices one frame of one channel uses. -/
def frameDraws : Nat := 4 * Config.ns + 9 * Config.ks

/-- `spec_frame(c)` (R219 to R225) for one channel: analysis, freeze, shift, phase vocoder, resynthesis,
overlap-add. -/
def specFrame (cfg : Config.Numerics) (p : SpecParams) (ch : SpecChan) (d : Nat) : SpecChan :=
  let polar := toPolar cfg (analysisSpectrum cfg ch.inBuf d) (d + 3 * Config.ns)
  let d1 := d + 3 * Config.ns + 2 * Config.ks
  let frozen := freezeStep p.freeze ch polar d1
  let shifted := shiftStep p frozen.2 (d1 + 2 * Config.ks)
  let synth := vocoded p.effectiveRatio ch shifted.phase (d1 + 4 * Config.ks)
  let y := resynthSpectrum cfg shifted.mag synth (d1 + 5 * Config.ks)
  { frozen.1 with
    inBuf := shiftedInput ch.inBuf
    outRing := overlapRing ch.outRing (resynthFrame cfg y) (d1 + 7 * Config.ks)
    prevPhase := shifted.phase
    synthPhase := synth }

/-! ### Processing (R217) -/

/-- Both freeze flags cleared when freezeAmount is exactly 0 (R215, R217). -/
def unfrozen (fa : Word) (sp : Spec) : Spec :=
  if F32.eq fa F32.zero then
    { sp with left := { sp.left with frozen := false }, right := { sp.right with frozen := false } }
  else sp

/-- One channel at one sample: the input word enters the newest hop of the sliding buffer (R217). -/
def specPush (fill : Nat) (x : Word) (ch : SpecChan) : SpecChan :=
  { ch with inBuf := ch.inBuf.set (Config.ns - Config.hs + fill) x }

/-- When HS samples have arrived: both channels' frames, then the fill starts again (R217). -/
def specEndSample (cfg : Config.Numerics) (p : SpecParams) (sp : Spec) (d : Nat) : Spec × Nat :=
  if sp.fill + 1 = Config.hs then
    ({ left := specFrame cfg p sp.left d, right := specFrame cfg p sp.right (d + frameDraws), fill := 0 },
      d + 2 * frameDraws)
  else ({ sp with fill := sp.fill + 1 }, d)

/-- The result of processing a run of samples: both outputs, the engine, the next draw. -/
structure SpecRun where
  outL : List Word
  outR : List Word
  spec : Spec
  draws : Nat

/-- The samples of a block, in order (R217). The outputs are moved from the ring. -/
def specBlock (cfg : Config.Numerics) (p : SpecParams) : List (Word × Word) → Spec → Nat → SpecRun
  | [], sp, d => { outL := [], outR := [], spec := sp, draws := d }
  | (xl, xr) :: rest, sp, d =>
    let pushed := { sp with left := specPush sp.fill xl sp.left, right := specPush sp.fill xr sp.right }
    let next := specEndSample cfg p pushed d
    let run := specBlock cfg p rest next.1 next.2
    { run with
      outL := sp.left.outRing.getD sp.fill F32.zero :: run.outL
      outR := sp.right.outRing.getD sp.fill F32.zero :: run.outR }

/-- SPEC_PROCESS on an accessible block (R217). -/
def specProcessed (s : State) : State :=
  let p := specParams s
  let run := specBlock s.numerics p (inputBlock s) (unfrozen p.freeze s.spec) s.nanDraws
  { writeOutputs s run.outL run.outR with spec := run.spec, nanDraws := run.draws }

/-- SPEC_PROCESS (R217). -/
def execSpecProcess (s : State) : Result :=
  whenReady s (requireBlocks s (.next (finish 0#32 0#32 (specProcessed s))))

/-- SPEC_RESET (R226). -/
def execSpecReset (s : State) : Result :=
  whenReady s (.next (finish 0#32 0#32 { s with spec := specClear }))

end Sys2Proof.Machine
end

