-- ==== Sys2Proof/Machine/Dispatch.lean ====
section
/-! DEFINITION. One arm per command: the meaning of each (41_system.md R137, "run the rule of op"). -/

namespace Sys2Proof.Machine

def exec (i : Instr) (s : State) : Host.Outcome State Fault Refusal :=
  match i with
  | .nop => Sys2Proof.Machine.execNop s
  | .init => Sys2Proof.Machine.execInit s
  | .cleanup => Sys2Proof.Machine.execCleanup s
  | .getInputBuffer => Sys2Proof.Machine.execGetInputBuffer s
  | .getOutputBuffer => Sys2Proof.Machine.execGetOutputBuffer s
  | .bufScale => Sys2Proof.Machine.execBufScale s
  | .bufAdd => Sys2Proof.Machine.execBufAdd s
  | .bufMix => Sys2Proof.Machine.execBufMix s
  | .bufCopy => Sys2Proof.Machine.execBufCopy s
  | .bufClear => Sys2Proof.Machine.execBufClear s
  | .bufInterleave => Sys2Proof.Machine.execBufInterleave s
  | .bufDeinterleave => Sys2Proof.Machine.execBufDeinterleave s
  | .bufGainRamp => Sys2Proof.Machine.execBufGainRamp s
  | .bufSoftClip => Sys2Proof.Machine.execBufSoftClip s
  | .bufHardClip => Sys2Proof.Machine.execBufHardClip s
  | .bufDcRemove => Sys2Proof.Machine.execBufDcRemove s
  | .bufFindPeak => Sys2Proof.Machine.execBufFindPeak s
  | .envLookup => Sys2Proof.Machine.execEnvLookup s
  | .convLoadIr => Sys2Proof.Machine.execConvLoadIr s
  | .convProcess => Sys2Proof.Machine.execConvProcess s
  | .convReset => Sys2Proof.Machine.execConvReset s
  | .granLoadSource => Sys2Proof.Machine.execGranLoadSource s
  | .granProcess => Sys2Proof.Machine.execGranProcess s
  | .granReset => Sys2Proof.Machine.execGranReset s
  | .specProcess => Sys2Proof.Machine.execSpecProcess s
  | .specReset => Sys2Proof.Machine.execSpecReset s

end Sys2Proof.Machine
end

