-- ==== Sys2Proof/Machine/HostMoves.lean ====
section
/-! DEFINITION. What each outside event does: command execution on a CMD write (41_system.md R137), the host's
register and arena accesses (20_memory.md R66, R67), and the reset input (70_reset_and_hazards.md R260). -/

namespace Sys2Proof.Machine

/-- A host write of `w` to CMD: CMD stores `w`, then the command executes as one indivisible transition
(R137, 10_state.md R21). A word that is no command ends with ERR_ILLEGAL_CMD (30_encoding.md R86). -/
def runCommand (w : Word) (s : State) : Result :=
  match decode w with
  | .ok i => exec i { s with cmd := w }
  | .error _ => .next (raiseRC .illegalCmd { s with cmd := w })

/-- The host's register access is at a multiple of 4 below 0x100 (R67). Else it is refused. -/
def atRegister (off : Word) (run : Result) : Result :=
  if off.toNat % 4 ≠ 0 then .refused (.hostMisaligned off)
  else if 0x100 ≤ off.toNat then .refused (.hostUndecoded off)
  else run

/-- The host's arena access is at a multiple of 4 that is decoded (R66). Else it is refused. -/
def atArena (off : Word) (run : Result) : Result :=
  if off.toNat % 4 ≠ 0 then .refused (.hostMisaligned off)
  else if !decoded off.toNat then .refused (.hostUndecoded off)
  else run

/-- A host read returns a word (assumption 3). No read has a side effect on the core (R71). -/
def State.observe (s : State) (w : Word) : State := { s with seen := w :: s.seen }

/-- Power-on reset (R260, R262): every element of the core takes its reset value. The outside world's own
record goes on, and SRC and IR hold new draws (assumption 9). -/
def State.powerOn (s : State) : State :=
  { State.reset with
    pending := s.pending
    seen := s.seen
    nanDraws := s.nanDraws
    powerCycles := s.powerCycles + 1
    numerics := s.numerics }

/-- The transition of one outside event (R72). -/
def hostStep (e : HostEvent) (s : State) : Result :=
  match e with
  | .regRead off => atRegister off (.next (s.observe (s.regRead off.toNat)))
  | .regWrite off w => atRegister off (if off.toNat = offCmd then runCommand w s else .next (s.regWrite off.toNat w))
  | .arenaRead off => atArena off (.next (s.observe (s.readWord off.toNat)))
  | .arenaWrite off w => atArena off (.next (s.writeWord off.toNat w))
  | .otherWidth _ _ bits => .refused (.hostWidth bits)
  | .powerOn => .next s.powerOn

end Sys2Proof.Machine
end

