-- ==== Sys2Proof/Machine/Step.lean ====
section
/-! DEFINITION. One step of the machine: the next outside event and, when it is a CMD write, the whole command
(41_system.md R135, R137; 20_memory.md R69, R72). -/

namespace Sys2Proof.Machine

/-- The state with the first pending event taken off the list. -/
def State.takeEvent (s : State) (rest : List HostEvent) : State := { s with pending := rest }

/-- One step. DESIGN CHOICE: an idle core, with no event pending, stays as it is (R135, assumption 2). -/
def step (s : State) : Host.Outcome State Fault Refusal :=
  match s.pending with
  | [] => .next s
  | e :: rest => hostStep e (s.takeEvent rest)

/-- The state whose very next step runs the command word `w`: the host's write of it to CMD stands first in
the list of pending events (assumption 1). -/
def State.withFetchWord (s : State) (nbits w : Nat) : State :=
  { s with pending := .regWrite (BitVec.ofNat 32 offCmd) (BitVec.ofNat 32 (w % 2 ^ nbits)) :: s.pending }

end Sys2Proof.Machine
end

