-- ==== Sys2Proof/Safety.lean ====
section
/-! DEFINITION. What counts as a safe state and a safe host: the invariants that the spec states (10_state.md R37 to
R42, 44_granular.md R206, 45_spectral.md R222, R225) with the canonical form of the arena, and the host moves that
the spec gives a meaning (20_memory.md R66, R67). -/

namespace Sys2Proof.Machine

/-! ### The engines' invariants -/

/-- A list of spectra with `n` entries, each of NC values (10_state.md R38). -/
structure SpectraInv (n : Nat) (zs : List Spectrum) : Prop where
  count : zs.length = n
  bins : ∀ z ∈ zs, z.length = Config.nc

/-- A channel of the convolution engine: the shapes of R38, with as many live FDL slots as partitions (R39). -/
structure ConvChan.Inv (parts : Nat) (ch : ConvChan) : Prop where
  fdl : SpectraInv parts ch.fdl
  input : ch.input.length = Config.hc
  tail : ch.tail.length = Config.nc

/-- The convolution engine (R38, R39): at most PMAX partitions, the fill below HC, the position below
max(conv_P, 1). -/
structure Conv.Inv (c : Conv) : Prop where
  parts : c.parts ≤ Config.pMax
  irSpec : SpectraInv c.parts c.irSpec
  left : c.left.Inv c.parts
  right : c.right.Inv c.parts
  fill : c.fill < Config.hc
  pos : c.pos < max c.parts 1

/-- The granular engine (R40, R41): the pool has GRAIN_POOL records and the source record fits the SRC region
(44_granular.md R196). -/
structure Gran.Inv (g : Gran) : Prop where
  pool : g.grains.length = Config.grainPool
  channels : g.srcChannels ≤ 2
  source : g.srcFrames * g.srcChannels ≤ Config.srcCapWords

/-- A grain between two samples (R41): when active, neither its phase nor its position has reached 1.0. -/
def Grain.Live (x : Grain) : Prop :=
  x.active = true → F32.le F32.one x.phase = false ∧ F32.le F32.one x.pos = false

/-- Every grain of the pool is as R41 says. -/
def Gran.Live (g : Gran) : Prop := ∀ x ∈ g.grains, x.Live

/-- A channel of the spectral engine: the shapes of R42, and the upper half of the ring always +0.0
(45_spectral.md R225). -/
structure SpecChan.Inv (ch : SpecChan) : Prop where
  inBuf : ch.inBuf.length = Config.ns
  outRing : ch.outRing.length = Config.outRing
  upper : ∀ j, Config.ns ≤ j → ch.outRing.getD j F32.zero = F32.zero
  prevPhase : ch.prevPhase.length = Config.ks
  synthPhase : ch.synthPhase.length = Config.ks
  frozenMag : ch.frozenMag.length = Config.ks
  frozenPhase : ch.frozenPhase.length = Config.ks

/-- The spectral engine (R42): the fill below HS, and the two freeze flags equal (45_spectral.md R222). -/
structure Spec.Inv (sp : Spec) : Prop where
  left : sp.left.Inv
  right : sp.right.Inv
  fill : sp.fill < Config.hs
  frozen : sp.left.frozen = sp.right.frozen

/-! ### The machine's invariant -/

/-- The invariant of the machine. -/
structure State.Inv (s : State) : Prop where
  /-- The arena is in its canonical form. -/
  arena : Arena.wf s.arena = true
  /-- The configuration is valid while the engine is ready (R37). -/
  config : s.ready = true →
    rateOk s.sampleRate = true ∧ Config.bsMin ≤ s.blockSize ∧ s.blockSize ≤ Config.bsMax
  conv : s.conv.Inv
  /-- A loaded IR has a partition (43_convolution.md R175). -/
  loadedIr : s.irLoaded = true → 0 < s.conv.parts
  gran : s.gran.Inv
  /-- A loaded source has a frame, in one or two channels (44_granular.md R195, R196). -/
  loadedSrc : s.srcLoaded = true → 0 < s.gran.srcFrames ∧ 0 < s.gran.srcChannels
  spec : s.spec.Inv

/-! ### The host's moves that have a meaning -/

/-- The spec gives the move a meaning (20_memory.md R66, R67): a word access at a multiple of 4, in the
register space or at a decoded offset. The reset input always has one. -/
def HostEvent.legal : HostEvent → Bool
  | .regRead off => decide (off.toNat % 4 = 0) && decide (off.toNat < 0x100)
  | .regWrite off _ => decide (off.toNat % 4 = 0) && decide (off.toNat < 0x100)
  | .arenaRead off => decide (off.toNat % 4 = 0) && decoded off.toNat
  | .arenaWrite off _ => decide (off.toNat % 4 = 0) && decoded off.toNat
  | .otherWidth _ _ _ => false
  | .powerOn => true

/-- Every outside event still to come has a meaning. -/
def State.wellDriven (s : State) : Prop := ∀ e ∈ s.pending, e.legal = true

/-! ### The words the statements are made of -/

/-- The words at `off`, `off + 4`, ... up to `n` of them now hold the given values, every byte outside them is as
before, and the command ended with `finish(0, 0)` and changed nothing else but the count of drawn NaN patterns,
which went up by `draws` (assumption 8). -/
structure WroteSpan (s t : State) (off n draws : Nat) (value : Nat → Word) : Prop where
  words : ∀ i, i < n → t.readWord (off + 4 * i) = value i
  bytes : ∀ a, a < off ∨ off + 4 * n ≤ a → t.readByte a = s.readByte a
  rest : t = { s with rc := .ok, trunc := false, result0 := 0#32, result1 := 0#32, arena := t.arena,
                      nanDraws := s.nanDraws + draws }

/-- The meaning of a buffer primitive with one destination span (42_buffer_primitives.md R151 to R154): it fails when
the engine is not ready, fails when its spans are not accepted, and else writes its destination. -/
def Primitive (i : Instr) (accepts : State → Bool) (off n draws : State → Nat) (value : State → Nat → Word) : Prop :=
  ∀ s : State,
    (s.ready = false → exec i s = .next (raiseRC .notInit s)) ∧
    (s.ready = true → accepts s = false → exec i s = .next (raiseRC .badSpan s)) ∧
    (s.ready = true → accepts s = true →
      ∃ t, exec i s = .next t ∧ WroteSpan s t (off s) (n s) (draws s) (value s))

/-- A primitive on Span(ARG0, ARG2) and Span(ARG1, ARG2) whose elements are computed: element i draws pattern
i of its span's if it is a NaN (40_numerics.md R107). -/
def ComputedPrimitive (i : Instr) (value : State → Nat → Word) : Prop :=
  Primitive i (fun s => spanPairOk ⟨s.arg0.toNat, s.arg2.toNat⟩ ⟨s.arg1.toNat, s.arg2.toNat⟩)
    (fun s => s.arg0.toNat) (fun s => s.arg2.toNat) (fun s => s.arg2.toNat)
    (fun s k => F32.settle (s.nanDraws + k) (value s k))

/-- A primitive on Span(ARG0, ARG2) and Span(ARG1, ARG2) whose elements are moved. -/
def MovingPrimitive (i : Instr) (value : State → Nat → Word) : Prop :=
  Primitive i (fun s => spanPairOk ⟨s.arg0.toNat, s.arg2.toNat⟩ ⟨s.arg1.toNat, s.arg2.toNat⟩)
    (fun s => s.arg0.toNat) (fun s => s.arg2.toNat) (fun _ => 0) value

/-- Element i of Span(ARG1, ARG2). -/
def State.srcWord (s : State) (i : Nat) : Word := s.readWord (s.arg1.toNat + 4 * i)

/-- Element i of Span(ARG0, ARG2). -/
def State.dstWord (s : State) (i : Nat) : Word := s.readWord (s.arg0.toNat + 4 * i)

/-- The words 0..block_size of OUT_L and OUT_R hold the given values, and every other byte is as before
(20_memory.md R64). -/
structure WroteOutputs (s t : State) (left right : Nat → Word) : Prop where
  left : ∀ k, k < s.blockSize → t.readWord (0x2000 + 4 * k) = left k
  right : ∀ k, k < s.blockSize → t.readWord (0x3000 + 4 * k) = right k
  bytes : ∀ a, (a < 0x2000 ∨ 0x2000 + 4 * s.blockSize ≤ a) → (a < 0x3000 ∨ 0x3000 + 4 * s.blockSize ≤ a) →
    t.readByte a = s.readByte a

end Sys2Proof.Machine
end

