-- ==== Sys2Proof/Certificates/Slice0/Obligations.lean ====
section
/-! DEFINITION. The statements for the provers, each a formalisation of numbered rules of spec/ or a consequence of
them. Where a statement rests on a choice of the model, its docstring names the log entry of notes/assumptions. -/

open Sys2Proof Sys2Proof.Machine

/-! ### Encoding (30_encoding.md) -/

/-- R88: the opcode map, word by word. A word is a command exactly when it stands in this table. -/
def Obligations.OpcodeMapIsExact : Prop :=
  ∀ (w : Word) (i : Instr), decode w = .ok i ↔
    (w, i) ∈
      [(0x00000000#32, Instr.nop), (0x00000001#32, Instr.init), (0x00000002#32, Instr.cleanup),
       (0x00000003#32, Instr.getInputBuffer), (0x00000004#32, Instr.getOutputBuffer), (0x00000010#32, Instr.bufScale),
       (0x00000011#32, Instr.bufAdd), (0x00000012#32, Instr.bufMix), (0x00000013#32, Instr.bufCopy),
       (0x00000014#32, Instr.bufClear), (0x00000015#32, Instr.bufInterleave), (0x00000016#32, Instr.bufDeinterleave),
       (0x00000017#32, Instr.bufGainRamp), (0x00000018#32, Instr.bufSoftClip), (0x00000019#32, Instr.bufHardClip),
       (0x0000001A#32, Instr.bufDcRemove), (0x0000001B#32, Instr.bufFindPeak), (0x0000001C#32, Instr.envLookup),
       (0x00000020#32, Instr.convLoadIr), (0x00000021#32, Instr.convProcess), (0x00000022#32, Instr.convReset),
       (0x00000030#32, Instr.granLoadSource), (0x00000031#32, Instr.granProcess), (0x00000032#32, Instr.granReset),
       (0x00000040#32, Instr.specProcess), (0x00000041#32, Instr.specReset)]

/-- Decode and encode agree, both ways: a command's word decodes to it, and no other word does. -/
def Obligations.DecodeAndEncodeAgree : Prop :=
  ∀ (w : Word) (i : Instr), decode w = .ok i ↔ w = encode i

/-- A few words written out from R85 and R88, and some that are no command. -/
def Obligations.SampleWordsDecode : Prop :=
  decode 0x00000001#32 = .ok .init ∧ decode 0x00000017#32 = .ok .bufGainRamp ∧
  decode 0x00000021#32 = .ok .convProcess ∧ decode 0x00000031#32 = .ok .granProcess ∧
  decode 0x00000041#32 = .ok .specReset ∧ decode 0x00000005#32 = .error .unassignedOpcode ∧
  decode 0x000000FF#32 = .error .unassignedOpcode ∧ decode 0x00000101#32 = .error .reservedBits

/-! ### The execution of a command (41_system.md section 1, 60_exceptions.md) -/

/-- R86: a word with RSV not zero, or an OPC of no command, changes STATUS.RC, STATUS.TRUNC, RESULT0 and RESULT1 alone
(and CMD, which stores the word, R21). Every other word is the command its OPC names. -/
def Obligations.CommandWordRunsOrIsIllegal : Prop :=
  ∀ (w : Word) (s : State),
    ((rsvOf w ≠ 0#24 ∨ ∀ i, opcOf w ≠ opcodeOf i) →
      runCommand w s =
        .next { s with cmd := w, rc := .illegalCmd, trunc := false, result0 := 0xFFFFFFFF#32, result1 := 0#32 }) ∧
    (∀ i, rsvOf w = 0#24 → opcOf w = opcodeOf i → runCommand w s = exec i { s with cmd := w })

/-- A step whose event is a write of a word to CMD runs that word, command or not, on the state with the event taken
(`Obligations.CommandWordRunsOrIsIllegal` says what the run of a word is); for the word of a command it is that command
with CMD written (R21, R137). With no event to come a step changes nothing: the model's choice for the idle core (R135,
log 2). -/
def Obligations.StepRunsTheDecodedCommand : Prop :=
  (∀ (s : State) (w : Word) (rest : List HostEvent), s.pending = .regWrite 0x00000000#32 w :: rest →
    step s = runCommand w { s with pending := rest } ∧
    ∀ i : Instr, decode w = .ok i → step s = exec i { s with pending := rest, cmd := w }) ∧
  ∀ s : State, s.pending = [] → step s = .next s

/-- R136: every command but NOP, INIT and CLEANUP fails with ERR_NOT_INIT while `ready = 0`, and changes no other
state. -/
def Obligations.CommandsNeedReady : Prop :=
  ∀ (i : Instr) (s : State), i ≠ .nop → i ≠ .init → i ≠ .cleanup → s.ready = false →
    exec i s = .next { s with rc := .notInit, trunc := false, result0 := 0xFFFFFFFF#32, result1 := 0#32 }

/-- R244: a command that ends with a code other than OK has written STATUS.RC, STATUS.TRUNC, RESULT0 and RESULT1
as the rule says, and nothing else. -/
def Obligations.FailingCommandChangesNothingElse : Prop :=
  ∀ (i : Instr) (s t : State), exec i s = .next t → t.rc ≠ .ok →
    t = { s with rc := t.rc, trunc := false, result0 := 0xFFFFFFFF#32, result1 := 0#32 }

/-- R243: the result codes each command can end with. -/
def Obligations.PossibleResultCodes : Prop :=
  (∀ (i : Instr) (s t : State), exec i s = .next t →
    (i ∈ [Instr.nop, .cleanup] → t.rc = .ok) ∧
    (i = .init → t.rc ∈ [ResultCode.ok, .badRate, .badBlock]) ∧
    (i ∈ [Instr.getInputBuffer, .getOutputBuffer] → t.rc ∈ [ResultCode.ok, .notInit, .badChannel]) ∧
    (i ∈ [Instr.bufScale, .bufAdd, .bufMix, .bufCopy, .bufClear, .bufInterleave, .bufDeinterleave, .bufGainRamp,
          .bufSoftClip, .bufHardClip, .bufDcRemove, .bufFindPeak] →
      t.rc ∈ [ResultCode.ok, .notInit, .badSpan]) ∧
    (i ∈ [Instr.convLoadIr, .granLoadSource] → t.rc ∈ [ResultCode.ok, .notInit, .badChannelCount]) ∧
    (i ∈ [Instr.envLookup, .convProcess, .convReset, .granProcess, .granReset, .specProcess, .specReset] →
      t.rc ∈ [ResultCode.ok, .notInit])) ∧
  ∀ (w : Word) (s t : State), (∀ i, decode w ≠ .ok i) → runCommand w s = .next t → t.rc = .illegalCmd

/-- What a command leaves alone. No command writes CMD or an argument register (R21, R23), and none touches what the
model adds to the state but the count of drawn NaN patterns (logs 1, 3, 4, 9). Only a load sets TRUNC (R22). Only
INIT writes the configuration (R37), only INIT and the commands of an engine's own group write that engine (R62,
R270), and only INIT, CLEANUP and the loads write the ready flags (R22). -/
def Obligations.OnlyItsCommandsWriteAnEngine : Prop :=
  ∀ (i : Instr) (s t : State), exec i s = .next t →
    t.cmd = s.cmd ∧ t.arg0 = s.arg0 ∧ t.arg1 = s.arg1 ∧ t.arg2 = s.arg2 ∧ t.arg3 = s.arg3 ∧ t.arg4 = s.arg4 ∧
    t.pending = s.pending ∧ t.seen = s.seen ∧ t.powerCycles = s.powerCycles ∧ t.numerics = s.numerics ∧
    (i ≠ .convLoadIr → i ≠ .granLoadSource → t.trunc = false) ∧
    (i ≠ .init → t.sampleRate = s.sampleRate ∧ t.blockSize = s.blockSize) ∧
    (i ≠ .init → i ≠ .cleanup → t.ready = s.ready) ∧
    (i ≠ .init → i ≠ .cleanup → i ≠ .convLoadIr → t.irLoaded = s.irLoaded) ∧
    (i ≠ .init → i ≠ .cleanup → i ≠ .granLoadSource → t.srcLoaded = s.srcLoaded) ∧
    (i ≠ .init → i ≠ .convLoadIr → i ≠ .convProcess → i ≠ .convReset → t.conv = s.conv) ∧
    (i ≠ .init → i ≠ .granLoadSource → i ≠ .granProcess → i ≠ .granReset → t.gran = s.gran) ∧
    (i ≠ .init → i ≠ .specProcess → i ≠ .specReset → t.spec = s.spec)

/-- Who writes the arena (R65): besides the buffer primitives, INIT writes IN_L to WORK and the process commands write
the output blocks. Every other byte keeps its value, whatever the command's outcome. -/
def Obligations.OnlyItsCommandsWriteTheArena : Prop :=
  ∀ (i : Instr) (s t : State), exec i s = .next t →
    (i ∈ [Instr.nop, .cleanup, .getInputBuffer, .getOutputBuffer, .bufFindPeak, .envLookup, .convLoadIr, .convReset,
          .granLoadSource, .granReset, .specReset] → ∀ a, t.readByte a = s.readByte a) ∧
    (i = .init → ∀ a, 0x8000 ≤ a → t.readByte a = s.readByte a) ∧
    (i ∈ [Instr.convProcess, .granProcess, .specProcess] →
      ∀ a, (a < 0x2000 ∨ 0x2000 + 4 * s.blockSize ≤ a) → (a < 0x3000 ∨ 0x3000 + 4 * s.blockSize ≤ a) →
        t.readByte a = s.readByte a)

/-! ### System commands (41_system.md section 2) -/

/-- R138, R141: NOP and CLEANUP complete in every state. NOP writes only the result; CLEANUP also clears the three ready
flags, after which the configuration reads its defaults and every command but NOP, INIT and CLEANUP fails. -/
def Obligations.NopAndCleanupComplete : Prop :=
  ∀ s : State,
    exec .nop s = .next { s with rc := .ok, trunc := false, result0 := 0#32, result1 := 0#32 } ∧
    ∃ t, exec .cleanup s = .next t ∧
      t = { s with ready := false, irLoaded := false, srcLoaded := false, rc := .ok, trunc := false,
                   result0 := 0#32, result1 := 0#32 } ∧
      t.regRead 0x24 = 0x472C4400#32 ∧ t.regRead 0x28 = 128#32 ∧
      ∀ i : Instr, i ≠ .nop → i ≠ .init → i ≠ .cleanup → exec i t = .next (raiseRC .notInit t)

/-- R139: INIT checks the rate, then the block size. When both are valid it completes: the configuration is taken, every
engine is as after reset, IN_L to WORK read zero, and nothing else changes, SRC and IR included. -/
def Obligations.InitMeaning : Prop :=
  ∀ s : State,
    (¬(F32.le 0x45FA0000#32 s.arg0 = true ∧ F32.le s.arg0 0x483B8000#32 = true) →
      exec .init s = .next { s with rc := .badRate, trunc := false, result0 := 0xFFFFFFFF#32, result1 := 0#32 }) ∧
    (F32.le 0x45FA0000#32 s.arg0 = true → F32.le s.arg0 0x483B8000#32 = true →
      ¬(32 ≤ s.arg1.toNat ∧ s.arg1.toNat ≤ 1024) →
      exec .init s = .next { s with rc := .badBlock, trunc := false, result0 := 0xFFFFFFFF#32, result1 := 0#32 }) ∧
    (F32.le 0x45FA0000#32 s.arg0 = true → F32.le s.arg0 0x483B8000#32 = true →
      32 ≤ s.arg1.toNat → s.arg1.toNat ≤ 1024 →
      ∃ t, exec .init s = .next t ∧
        t = { s with
          rc := .ok, trunc := false, result0 := 0#32, result1 := 0#32
          sampleRate := s.arg0, blockSize := s.arg1.toNat, ready := true, irLoaded := false, srcLoaded := false
          conv := State.reset.conv, gran := State.reset.gran, spec := State.reset.spec, arena := t.arena } ∧
        (∀ a, a < 0x8000 → t.readByte a = 0#8) ∧
        (∀ a, 0x8000 ≤ a → t.readByte a = s.readByte a))

/-- R263: two machines with the same INIT arguments, whatever their histories, agree after the command word of a
successful INIT on every register but ARG2 to ARG4, on every engine and on every byte below SRC. -/
def Obligations.InitErasesHistory : Prop :=
  ∀ s s' t t' : State, s.arg0 = s'.arg0 → s.arg1 = s'.arg1 → runCommand 0x00000001#32 s = .next t →
    runCommand 0x00000001#32 s' = .next t' → t.rc = .ok →
      t.cmd = t'.cmd ∧ t.arg0 = t'.arg0 ∧ t.arg1 = t'.arg1 ∧
      t.rc = t'.rc ∧ t.trunc = t'.trunc ∧ t.status = t'.status ∧ t.result0 = t'.result0 ∧ t.result1 = t'.result1 ∧
      t.sampleRate = t'.sampleRate ∧ t.blockSize = t'.blockSize ∧ t.ready = t'.ready ∧ t.irLoaded = t'.irLoaded ∧
      t.srcLoaded = t'.srcLoaded ∧ t.conv = t'.conv ∧ t.gran = t'.gran ∧ t.spec = t'.spec ∧
      ∀ a, a < 0x8000 → t.readByte a = t'.readByte a

/-- R142, R143: the views of the input and output blocks. -/
def Obligations.BufferViews : Prop :=
  ∀ s : State,
    (s.ready = false → ∀ i ∈ [Instr.getInputBuffer, .getOutputBuffer], exec i s = .next (raiseRC .notInit s)) ∧
    (s.ready = true → 1 < s.arg0.toNat →
      ∀ i ∈ [Instr.getInputBuffer, .getOutputBuffer], exec i s = .next (raiseRC .badChannel s)) ∧
    (s.ready = true → s.arg0.toNat ≤ 1 →
      exec .getInputBuffer s =
        .next { s with rc := .ok, trunc := false,
                       result0 := if s.arg0.toNat = 0 then 0x00000000#32 else 0x00001000#32,
                       result1 := BitVec.ofNat 32 s.blockSize } ∧
      exec .getOutputBuffer s =
        .next { s with rc := .ok, trunc := false,
                       result0 := if s.arg0.toNat = 0 then 0x00002000#32 else 0x00003000#32,
                       result1 := BitVec.ofNat 32 s.blockSize })

/-! ### Buffer primitives (42_buffer_primitives.md) -/

/-- R70, R63, R151, R152: a span is valid exactly when its offset is a multiple of 4 and its byte range lies inside one
row of the arena map, in unbounded integers. Two spans overlap exactly when some byte lies in both ranges, so a span of
length 0 overlaps nothing. A primitive with one destination and one source accepts the same offset or disjoint spans;
the destination of BUF_INTERLEAVE overlaps neither source; the source of BUF_DEINTERLEAVE overlaps neither destination,
and these not each other. -/
def Obligations.SpanValidity : Prop :=
  (∀ off n : Nat, Span.valid ⟨off, n⟩ = true ↔
    off % 4 = 0 ∧
      ∃ r ∈ [(0x00000000, 0x00001000), (0x00001000, 0x00002000), (0x00002000, 0x00003000), (0x00003000, 0x00004000),
             (0x00004000, 0x00008000), (0x00008000, 0x00365540), (0x00366000, 0x00514AA0)],
        r.1 ≤ off ∧ off + 4 * n ≤ r.2) ∧
  (∀ a b : Span, a.overlaps b = true ↔
    ∃ byte, (a.off ≤ byte ∧ byte < a.off + 4 * a.n) ∧ b.off ≤ byte ∧ byte < b.off + 4 * b.n) ∧
  (∀ dst src : Span, spanPairOk dst src = true ↔
    dst.valid = true ∧ src.valid = true ∧ (dst.off = src.off ∨ dst.overlaps src = false)) ∧
  (∀ dst srcL srcR : Span, interleaveOk dst srcL srcR = true ↔
    dst.valid = true ∧ srcL.valid = true ∧ srcR.valid = true ∧ dst.overlaps srcL = false ∧ dst.overlaps srcR = false) ∧
  ∀ dstL dstR src : Span, deinterleaveOk dstL dstR src = true ↔
    dstL.valid = true ∧ src.valid = true ∧ dstR.valid = true ∧ src.overlaps dstL = false ∧
      src.overlaps dstR = false ∧ dstL.overlaps dstR = false

/-- R155, R156, R157: BUF_SCALE, BUF_ADD and BUF_MIX (product, then sum, each rounded). The draws are the model's
(log 8). -/
def Obligations.BufArithmeticMeaning : Prop :=
  ComputedPrimitive .bufScale (fun s k => F32.mul (s.srcWord k) s.arg3) ∧
  ComputedPrimitive .bufAdd (fun s k => F32.add (s.dstWord k) (s.srcWord k)) ∧
  ComputedPrimitive .bufMix (fun s k => F32.add (s.dstWord k) (F32.mul (s.srcWord k) s.arg3))

/-- R158, R159: BUF_COPY, a bit copy, and BUF_CLEAR, which checks and writes its one span. -/
def Obligations.BufCopyAndClearMeaning : Prop :=
  MovingPrimitive .bufCopy (fun s k => s.srcWord k) ∧
  Primitive .bufClear (fun s => Span.valid ⟨s.arg0.toNat, s.arg2.toNat⟩) (fun s => s.arg0.toNat)
    (fun s => s.arg2.toNat) (fun _ => 0) (fun _ _ => 0x00000000#32)

/-- R160, R161: BUF_INTERLEAVE writes 2n words, and its destination overlaps neither source; BUF_DEINTERLEAVE writes two
spans that are disjoint, and its source overlaps neither. -/
def Obligations.BufInterleaveAndDeinterleaveMeaning : Prop :=
  Primitive .bufInterleave
    (fun s => interleaveOk ⟨s.arg0.toNat, 2 * s.arg2.toNat⟩ ⟨s.arg1.toNat, s.arg2.toNat⟩ ⟨s.arg3.toNat, s.arg2.toNat⟩)
    (fun s => s.arg0.toNat) (fun s => 2 * s.arg2.toNat) (fun _ => 0)
    (fun s k => if k % 2 = 0 then s.readWord (s.arg1.toNat + 4 * (k / 2)) else s.readWord (s.arg3.toNat + 4 * (k / 2))) ∧
  ∀ s : State,
    (s.ready = false → exec .bufDeinterleave s = .next (raiseRC .notInit s)) ∧
    (s.ready = true →
      deinterleaveOk ⟨s.arg0.toNat, s.arg2.toNat⟩ ⟨s.arg3.toNat, s.arg2.toNat⟩ ⟨s.arg1.toNat, 2 * s.arg2.toNat⟩ = false →
      exec .bufDeinterleave s = .next (raiseRC .badSpan s)) ∧
    (s.ready = true →
      deinterleaveOk ⟨s.arg0.toNat, s.arg2.toNat⟩ ⟨s.arg3.toNat, s.arg2.toNat⟩ ⟨s.arg1.toNat, 2 * s.arg2.toNat⟩ = true →
      ∃ t, exec .bufDeinterleave s = .next t ∧
        t = { s with rc := .ok, trunc := false, result0 := 0#32, result1 := 0#32, arena := t.arena } ∧
        (∀ k, k < s.arg2.toNat →
          t.readWord (s.arg0.toNat + 4 * k) = s.readWord (s.arg1.toNat + 8 * k) ∧
          t.readWord (s.arg3.toNat + 4 * k) = s.readWord (s.arg1.toNat + 8 * k + 4)) ∧
        (∀ a, (a < s.arg0.toNat ∨ s.arg0.toNat + 4 * s.arg2.toNat ≤ a) →
          (a < s.arg3.toNat ∨ s.arg3.toNat + 4 * s.arg2.toNat ≤ a) → t.readByte a = s.readByte a))

/-- R162, R165: BUF_GAIN_RAMP, and BUF_DC_REMOVE, whose sum is sequential in index order and which writes nothing with
n = 0. The draws are the model's (log 8). -/
def Obligations.BufRampAndDcRemoveMeaning : Prop :=
  ComputedPrimitive .bufGainRamp (fun s k =>
    F32.mul (s.srcWord k)
      (F32.add s.arg3 (F32.mul (F32.sub s.arg4 s.arg3) (F32.div (F32.ofNat k) (F32.ofNat s.arg2.toNat))))) ∧
  ComputedPrimitive .bufDcRemove (fun s k =>
    F32.sub (s.srcWord k)
      (F32.div (((List.range s.arg2.toNat).map s.srcWord).foldl F32.add 0x00000000#32) (F32.ofNat s.arg2.toNat)))

/-- R163, R164: BUF_SOFT_CLIP, and BUF_HARD_CLIP with the clamped threshold. A NaN sample keeps its bits in both. -/
def Obligations.BufClipMeaning : Prop :=
  MovingPrimitive .bufSoftClip (fun s k =>
    if F32.isNaN (s.srcWord k) = true then s.srcWord k
    else if F32.lt 0x3F800000#32 (s.srcWord k) = true then 0x3F800000#32
    else if F32.lt (s.srcWord k) 0xBF800000#32 = true then 0xBF800000#32
    else F32.sub (F32.mul 0x3FC00000#32 (s.srcWord k))
      (F32.mul 0x3F000000#32 (F32.mul (F32.mul (s.srcWord k) (s.srcWord k)) (s.srcWord k)))) ∧
  MovingPrimitive .bufHardClip (fun s k =>
    let t := F32.clampP s.arg3 0x00000000#32 0x7F800000#32 0x00000000#32
    if F32.lt t (s.srcWord k) = true then t
    else if F32.lt (s.srcWord k) (F32.neg t) = true then F32.neg t
    else s.srcWord k)

/-- R166: BUF_FIND_PEAK completes on every valid span, and its result is the largest absolute value: no sample's is
greater, it is +0.0 or some sample's, and no NaN sample counts. -/
def Obligations.BufFindPeakMeaning : Prop :=
  ∀ s : State,
    (s.ready = false → exec .bufFindPeak s = .next (raiseRC .notInit s)) ∧
    (s.ready = true → Span.valid ⟨s.arg1.toNat, s.arg2.toNat⟩ = false →
      exec .bufFindPeak s = .next (raiseRC .badSpan s)) ∧
    (s.ready = true → Span.valid ⟨s.arg1.toNat, s.arg2.toNat⟩ = true →
      ∃ p, exec .bufFindPeak s = .next { s with rc := .ok, trunc := false, result0 := p, result1 := 0#32 } ∧
        (∀ k, k < s.arg2.toNat → F32.lt p (F32.abs (s.srcWord k)) = false) ∧
        (p = 0x00000000#32 ∨
          ∃ k, k < s.arg2.toNat ∧ F32.isNaN (s.srcWord k) = false ∧ p = F32.abs (s.srcWord k)))

/-- R167, R125: ENV_LOOKUP. -/
def Obligations.EnvLookupMeaning : Prop :=
  ∀ s : State,
    (s.ready = false → exec .envLookup s = .next (raiseRC .notInit s)) ∧
    (s.ready = true →
      let idx := F32.toIndex (F32.mul (F32.clampP s.arg3 0x00000000#32 0x3F7FFFFF#32 0x00000000#32) 0x44800000#32)
      idx < 1024 ∧
      exec .envLookup s =
        .next { s with rc := .ok, trunc := false, result0 := envTable idx, result1 := BitVec.ofNat 32 idx })

/-! ### Convolution (43_convolution.md) -/

/-- R176, R177, R178: CONV_LOAD_IR keeps the first frames (at most 220544 mono, 220500 stereo) in partitions of 128,
transforms each zero-padded partition of the downmixed frames, and clears the history. The draw indices are the
model's (log 8). -/
def Obligations.ConvLoadIrMeaning : Prop :=
  ∀ s : State,
    (s.ready = false → exec .convLoadIr s = .next (raiseRC .notInit s)) ∧
    (s.ready = true → s.arg1.toNat ≠ 1 → s.arg1.toNat ≠ 2 → exec .convLoadIr s = .next (raiseRC .badChannelCount s)) ∧
    (s.ready = true → (s.arg1.toNat = 1 ∨ s.arg1.toNat = 2) →
      let kept := min s.arg0.toNat (if s.arg1.toNat = 1 then 220544 else 220500)
      let parts := (kept + 127) / 128
      let frame : Nat → Word := fun q =>
        if s.arg1.toNat = 1 then s.readWord (0x366000 + 4 * q)
        else F32.settle (s.nanDraws + q)
          (F32.mul (F32.add (s.readWord (0x366000 + 8 * q)) (s.readWord (0x366000 + 8 * q + 4))) 0x3F000000#32)
      let block : Nat → List C32 := fun p =>
        (List.range 256).map (fun k =>
          if k < 128 ∧ p * 128 + k < kept then ⟨frame (p * 128 + k), 0x00000000#32⟩
          else ⟨0x00000000#32, 0x00000000#32⟩)
      let spectrum : Nat → List C32 := fun p =>
        C32.settleList (s.nanDraws + kept + p * 512) (fft s.numerics 256 (block p))
      exec .convLoadIr s =
        .next { s with
          rc := .ok, trunc := decide (kept < s.arg0.toNat)
          result0 := BitVec.ofNat 32 kept, result1 := BitVec.ofNat 32 parts
          irLoaded := decide (0 < parts)
          conv := convClearHistory { s.conv with parts := parts, irSpec := (List.range parts).map spectrum }
          nanDraws := s.nanDraws + kept + parts * 512 })

/-- R178, R183: CONV_RESET clears the history and keeps the IR, and nothing else changes. Only the live FDL slots are
listed (log 10). -/
def Obligations.ConvResetClearsTheHistory : Prop :=
  (∀ c : Conv,
    (convClearHistory c).parts = c.parts ∧ (convClearHistory c).irSpec = c.irSpec ∧
    (convClearHistory c).fill = 0 ∧ (convClearHistory c).pos = 0 ∧
    ∀ ch ∈ [(convClearHistory c).left, (convClearHistory c).right],
      ch.fdl = List.replicate c.parts (List.replicate 256 ⟨0x00000000#32, 0x00000000#32⟩) ∧
      ch.input = List.replicate 128 0x00000000#32 ∧ ch.tail = List.replicate 256 0x00000000#32) ∧
  ∀ s : State,
    (s.ready = false → exec .convReset s = .next (raiseRC .notInit s)) ∧
    (s.ready = true →
      exec .convReset s =
        .next { s with conv := convClearHistory s.conv, rc := .ok, trunc := false, result0 := 0#32, result1 := 0#32 })

/-- R205, R226: GRAN_RESET deactivates every grain and zeroes the accumulator; SPEC_RESET leaves the spectral engine as
after power-on reset. Nothing else changes, and GRAIN_ACTIVE reads 0. -/
def Obligations.GranAndSpecResetComplete : Prop :=
  ∀ s : State,
    (s.ready = false → ∀ i ∈ [Instr.granReset, .specReset], exec i s = .next (raiseRC .notInit s)) ∧
    (s.ready = true →
      (∃ t, exec .granReset s = .next t ∧ t.regRead 0x30 = 0#32 ∧
        t = { s with
          gran := { s.gran with
            grains := s.gran.grains.map (fun g => { g with active := false }), acc := 0x00000000#32 }
          rc := .ok, trunc := false, result0 := 0#32, result1 := 0#32 }) ∧
      exec .specReset s =
        .next { s with spec := State.reset.spec, rc := .ok, trunc := false, result0 := 0#32, result1 := 0#32 })

/-- R179, R175: without an IR, CONV_PROCESS copies the input block to the output block bit by bit, whatever ARG0 holds,
and touches no engine state. -/
def Obligations.ConvProcessPassesThrough : Prop :=
  ∀ s : State, s.ready = true → s.irLoaded = false → s.blockSize ≤ 1024 →
    ∃ t, exec .convProcess s = .next t ∧
      WroteOutputs s t (fun k => s.readWord (0x0000 + 4 * k)) (fun k => s.readWord (0x1000 + 4 * k)) ∧
      t = { s with rc := .ok, trunc := false, result0 := 0#32, result1 := 0#32, arena := t.arena }

/-- R179: with an IR, CONV_PROCESS runs the block through the engine and writes both output blocks; only the convolution
engine moves on. Sample k of the block is the pair of words at IN_L + 4k and IN_R + 4k. The draws are the model's
(log 8). -/
def Obligations.ConvProcessCompletes : Prop :=
  ∀ s : State, s.ready = true → s.irLoaded = true → s.blockSize ≤ 1024 →
    let wet := F32.clampP s.arg0 0x00000000#32 0x3F800000#32 0x00000000#32
    let run := convBlock s.numerics (F32.sub 0x3F800000#32 wet) wet (inputBlock s) s.conv s.nanDraws
    ((inputBlock s).length = s.blockSize ∧
      ∀ k, k < s.blockSize → (inputBlock s)[k]? = some (s.readWord (0x0000 + 4 * k), s.readWord (0x1000 + 4 * k))) ∧
    ∃ t, exec .convProcess s = .next t ∧
      WroteOutputs s t (fun k => run.outL.getD k 0#32) (fun k => run.outR.getD k 0#32) ∧
      t = { s with rc := .ok, trunc := false, result0 := 0#32, result1 := 0#32, arena := t.arena,
                   conv := run.conv, nanDraws := run.draws }

/-- R179: until the current sub-block is full, output sample k is `(dry * x) + (wet * tail)`, the input words of both
channels enter the sub-block, and only the fill count moves besides; so the wet signal depends on no input of this
sub-block. Any one sample, the one that fills the sub-block included, has those two outputs, and the engine after it is
`convEndSample` of the engine with the two input words at the fill count; short of 128 samples that only counts
(`Obligations.ConvSubblockStep` says what it does at 128). The draws are the model's (log 8). -/
def Obligations.ConvWithinSubblock : Prop :=
  (∀ (cfg : Config.Numerics) (dry wet : Word) (xs : List (Word × Word)) (c : Conv) (d : Nat),
    c.fill + xs.length < 128 →
      let run := convBlock cfg dry wet xs c d
      (∀ k, k < xs.length →
        run.outL.getD k 0#32 =
          F32.settle (d + 2 * k)
            (F32.add (F32.mul dry (xs.getD k (0#32, 0#32)).1) (F32.mul wet (c.left.tail.getD (c.fill + k) 0#32))) ∧
        run.outR.getD k 0#32 =
          F32.settle (d + 2 * k + 1)
            (F32.add (F32.mul dry (xs.getD k (0#32, 0#32)).2) (F32.mul wet (c.right.tail.getD (c.fill + k) 0#32)))) ∧
      run.draws = d + 2 * xs.length ∧
      run.conv =
        { c with
          left := { c.left with input := run.conv.left.input }
          right := { c.right with input := run.conv.right.input }
          fill := c.fill + xs.length } ∧
      (∀ j, j < c.left.input.length →
        run.conv.left.input.getD j 0#32 =
          if c.fill ≤ j ∧ j < c.fill + xs.length then (xs.getD (j - c.fill) (0#32, 0#32)).1
          else c.left.input.getD j 0#32) ∧
      ∀ j, j < c.right.input.length →
        run.conv.right.input.getD j 0#32 =
          if c.fill ≤ j ∧ j < c.fill + xs.length then (xs.getD (j - c.fill) (0#32, 0#32)).2
          else c.right.input.getD j 0#32) ∧
  (∀ (cfg : Config.Numerics) (dry wet : Word) (x : Word × Word) (c : Conv) (d : Nat),
    let run := convBlock cfg dry wet [x] c d
    run.outL = [F32.settle d (F32.add (F32.mul dry x.1) (F32.mul wet (c.left.tail.getD c.fill 0#32)))] ∧
    run.outR = [F32.settle (d + 1) (F32.add (F32.mul dry x.2) (F32.mul wet (c.right.tail.getD c.fill 0#32)))] ∧
    (run.conv, run.draws) =
      convEndSample cfg
        { c with
          left := { c.left with input := c.left.input.set c.fill x.1 }
          right := { c.right with input := c.right.input.set c.fill x.2 } } (d + 2)) ∧
  ∀ (cfg : Config.Numerics) (c : Conv) (d : Nat), c.fill + 1 ≠ 128 →
    convEndSample cfg c d = ({ c with fill := c.fill + 1 }, d)

/-- R180, R179: the sample that fills the sub-block runs both channels' steps, each storing the transform of the
zero-padded sub-block at the current position, summing the partition products in ascending order, and adding the
scaled inverse to the tail shifted left by 128; then the position advances modulo the partition count. The
draws are the model's (log 8). -/
def Obligations.ConvSubblockStep : Prop :=
  ∀ (cfg : Config.Numerics) (c : Conv) (d : Nat), c.fill + 1 = 128 →
    let next := (convEndSample cfg c d).1
    (convEndSample cfg c d).2 = d + 2560 ∧
    next.fill = 0 ∧ next.pos = (c.pos + 1) % c.parts ∧ next.parts = c.parts ∧ next.irSpec = c.irSpec ∧
    next.left.input = c.left.input ∧ next.right.input = c.right.input ∧
    ∀ ch nx at0, (ch, nx, at0) ∈ [(c.left, next.left, d), (c.right, next.right, d + 1280)] →
      nx.fdl = ch.fdl.set c.pos
        (C32.settleList at0 (fft cfg 256 ((List.range 256).map (fun k =>
          if k < 128 then ⟨ch.input.getD k 0#32, 0#32⟩ else ⟨0#32, 0#32⟩)))) ∧
      ∃ sum : Nat → List C32,
        sum 0 = List.replicate 256 ⟨0#32, 0#32⟩ ∧
        (∀ p, p < c.parts → sum (p + 1) = (List.range 256).map (fun k =>
          C32.add ((sum p).getD k ⟨0#32, 0#32⟩)
            (C32.mul
              ((nx.fdl.getD ((c.pos + c.parts - p) % c.parts) (List.replicate 256 ⟨0#32, 0#32⟩)).getD k ⟨0#32, 0#32⟩)
              ((c.irSpec.getD p (List.replicate 256 ⟨0#32, 0#32⟩)).getD k ⟨0#32, 0#32⟩)))) ∧
        ∀ k, k < 256 →
          nx.tail.getD k 0#32 =
            F32.settle (at0 + 1024 + k)
              (F32.add (if k < 128 then ch.tail.getD (k + 128) 0#32 else 0#32)
                (F32.mul
                  ((ifft cfg 256 (C32.settleList (at0 + 512) (sum c.parts))).getD k ⟨0#32, 0#32⟩).re 0x3B800000#32))

/-- R182, its exact part: with dryWet = 1, the first 128 samples after the history was cleared are +0.0 for finite
inputs, whatever the IR. -/
def Obligations.ConvFirstSubblockIsSilent : Prop :=
  ∀ (cfg : Config.Numerics) (xs : List (Word × Word)) (c : Conv) (d : Nat),
    xs.length ≤ 128 → (∀ x ∈ xs, F32.isFinite x.1 = true ∧ F32.isFinite x.2 = true) →
      ∀ k, k < xs.length →
        (convBlock cfg (F32.sub 0x3F800000#32 0x3F800000#32) 0x3F800000#32 xs (convClearHistory c) d).outL.getD k 0x1#32
          = 0x00000000#32 ∧
        (convBlock cfg (F32.sub 0x3F800000#32 0x3F800000#32) 0x3F800000#32 xs (convClearHistory c) d).outR.getD k 0x1#32
          = 0x00000000#32

/-! ### Granular (44_granular.md) -/

/-- R196: GRAN_LOAD_SOURCE records the frames kept (at most 882000 mono, 441000 stereo) and the channels, deactivates
every grain and zeroes the accumulator. It reads and writes no arena byte and does not touch the generator. -/
def Obligations.GranLoadSourceMeaning : Prop :=
  ∀ s : State,
    (s.ready = false → exec .granLoadSource s = .next (raiseRC .notInit s)) ∧
    (s.ready = true → s.arg1.toNat ≠ 1 → s.arg1.toNat ≠ 2 →
      exec .granLoadSource s = .next (raiseRC .badChannelCount s)) ∧
    (s.ready = true → (s.arg1.toNat = 1 ∨ s.arg1.toNat = 2) →
      let kept := min s.arg0.toNat (if s.arg1.toNat = 1 then 882000 else 441000)
      exec .granLoadSource s =
        .next { s with
          rc := .ok, trunc := decide (kept < s.arg0.toNat)
          result0 := BitVec.ofNat 32 kept, result1 := s.arg1
          srcLoaded := decide (0 < kept)
          gran := { s.gran with
            grains := s.gran.grains.map (fun g => { g with active := false })
            acc := 0x00000000#32, srcFrames := kept, srcChannels := s.arg1.toNat } })

/-- R204: without a source, GRAN_PROCESS writes silence for any parameters and changes no engine state. -/
def Obligations.GranProcessIsSilentWithoutSource : Prop :=
  ∀ s : State, s.ready = true → s.srcLoaded = false → s.blockSize ≤ 1024 →
    ∃ t, exec .granProcess s = .next t ∧ WroteOutputs s t (fun _ => 0x00000000#32) (fun _ => 0x00000000#32) ∧
      t = { s with rc := .ok, trunc := false, result0 := 0#32, result1 := 0#32, arena := t.arena }

/-- R198: with a source that fits SRC, GRAN_PROCESS synthesises the block from the pool and writes both output blocks;
only the granular engine moves on. The draws are the model's (log 8). -/
def Obligations.GranProcessCompletes : Prop :=
  ∀ s : State, s.ready = true → s.srcLoaded = true → s.blockSize ≤ 1024 →
    s.gran.srcFrames * s.gran.srcChannels ≤ 882000 →
    let run := granBlock s (granParams s) s.blockSize s.gran s.nanDraws
    ∃ t, exec .granProcess s = .next t ∧
      WroteOutputs s t (fun k => run.outL.getD k 0#32) (fun k => run.outR.getD k 0#32) ∧
      t = { s with rc := .ok, trunc := false, result0 := 0#32, result1 := 0#32, arena := t.arena,
                   gran := run.gran, nanDraws := run.draws }

/-- R197, R218: the parameters of a GRAN_PROCESS and of a SPEC_PROCESS, clamped and computed once. -/
def Obligations.ProcessParameters : Prop :=
  (∀ s : State,
    let gs := F32.clampP s.arg0 0x3F800000#32 0x483B8000#32 0x3F800000#32
    let dens := F32.clampP s.arg1 0x3DCCCCCD#32 0x447A0000#32 0x3DCCCCCD#32
    let load := F32.div (F32.mul dens gs) s.sampleRate
    granParams s =
      { interval := F32.div s.sampleRate dens
        dur := F32.toIndex (F32.floor gs)
        norm := F32.div 0x3F800000#32 (F32.sqrt (if F32.lt load 0x3F800000#32 = true then 0x3F800000#32 else load))
        pitchSpread := F32.clampP s.arg2 0x00000000#32 0x40000000#32 0x00000000#32
        position := F32.clampP s.arg3 0x00000000#32 0x3F800000#32 0x00000000#32
        spray := F32.clampP s.arg4 0x00000000#32 0x3F800000#32 0x00000000#32 }) ∧
  ∀ s : State,
    let r := F32.exp2 s.numerics
      (F32.div (F32.clampP s.arg1 0xC1C00000#32 0x41C00000#32 0x00000000#32) 0x41400000#32)
    (specParams s).freeze = F32.clampP s.arg0 0x00000000#32 0x3F800000#32 0x00000000#32 ∧
    (specParams s).ratio = r ∧
    (specParams s).shiftActive = F32.lt 0x3A83126F#32 (F32.abs (F32.sub r 0x3F800000#32)) ∧
    (specParams s).effectiveRatio =
      if F32.lt 0x3A83126F#32 (F32.abs (F32.sub r 0x3F800000#32)) = true then r else 0x3F800000#32

/-- R201, R127, R128: a spawn activates the first inactive grain in pool order from four draws, in the order position,
rate, pan, amplitude. With a full pool nothing changes and nothing is drawn. -/
def Obligations.GranSpawnTakesTheFirstFreeGrain : Prop :=
  ∀ (cfg : Config.Numerics) (p : GranParams) (g : Gran),
    ((∀ x ∈ g.grains, x.active = true) → granSpawn cfg p g = g) ∧
    ∀ n, n < g.grains.length → (g.grains.getD n Grain.zero).active = false →
      (∀ m, m < n → (g.grains.getD m Grain.zero).active = true) →
        let draw : Word → Word := fun r => 1664525#32 * r + 1013904223#32
        let unipolar : Word → Word := fun r => F32.mul (F32.ofNat (r.toNat / 256)) 0x33800000#32
        let bipolar : Word → Word := fun r => F32.sub (F32.mul 0x40000000#32 (unipolar r)) 0x3F800000#32
        let r1 := draw g.rng
        let r2 := draw r1
        let r3 := draw r2
        let r4 := draw r3
        granSpawn cfg p g =
          { g with
            rng := r4
            grains := g.grains.set n
              { active := true
                pos := F32.clampP (F32.add p.position (F32.mul p.spray (bipolar r1)))
                  0x00000000#32 0x3F800000#32 0x00000000#32
                rate := F32.exp2 cfg (F32.mul p.pitchSpread (bipolar r2))
                pan := F32.mul 0x3F333333#32 (bipolar r3)
                amp := F32.add 0x3F4CCCCD#32 (F32.mul 0x3E4CCCCD#32 (unipolar r4))
                phase := 0x00000000#32
                dur := p.dur } }

/-- R199: at every sample the accumulator advances by one. When it has reached the interval, the interval is
subtracted once and one spawn is attempted. So at most one grain more is active. The draw is the model's (log 8). -/
def Obligations.GranSpawnTiming : Prop :=
  ∀ (cfg : Config.Numerics) (p : GranParams) (g : Gran) (d : Nat),
    let acc := F32.add g.acc 0x3F800000#32
    (F32.le p.interval acc = true →
      granTick cfg p g d = granSpawn cfg p { g with acc := F32.settle d (F32.sub acc p.interval) }) ∧
    (F32.le p.interval acc = false → granTick cfg p g d = { g with acc := F32.settle d acc }) ∧
    (granTick cfg p g d).activeCount ≤ g.activeCount + 1

/-- R198, R199, R200, R202, R203: a sample of GRAN_PROCESS is the accumulator's tick, then the mix of the pool from
(+0.0, +0.0), then both sums times `norm`. The mix renders every active grain in pool order at its state before the
sample, then advances it; an inactive grain is left as it is, and an empty pool adds nothing. The draws are the
model's (log 8). -/
def Obligations.GranSampleRendersThenAdvances : Prop :=
  (∀ (s : State) (g : Gran) (i : Nat),
    (g.srcChannels = 1 → srcRead s g i = s.readWord (0x8000 + 4 * i)) ∧
    (g.srcChannels = 2 →
      srcRead s g i =
        F32.mul (F32.add (s.readWord (0x8000 + 8 * i)) (s.readWord (0x8000 + 8 * i + 4))) 0x3F000000#32)) ∧
  (∀ (s : State) (g : Gran) (l r : Word) (d : Nat),
    granMix s g [] l r d = { grains := [], l := l, r := r, draws := d }) ∧
  (∀ (s : State) (g : Gran) (x : Grain) (xs : List Grain) (l r : Word) (d : Nat),
    let run := granMix s g (x :: xs) l r d
    (x.active = false →
      let rest := granMix s g xs l r d
      run = { grains := x :: rest.grains, l := rest.l, r := rest.r, draws := rest.draws }) ∧
    (x.active = true →
      let frames := F32.ofNat g.srcFrames
      let idx := F32.mul x.pos frames
      let i0 := min (F32.toIndex (F32.floor idx)) (g.srcFrames - 1)
      let i1 := min (i0 + 1) (g.srcFrames - 1)
      let source := F32.lerp (srcRead s g i0) (srcRead s g i1) (F32.sub idx (F32.ofNat i0))
      let envelope :=
        envTable (F32.toIndex (F32.mul (F32.clampP x.phase 0x00000000#32 0x3F7FFFFF#32 0x00000000#32) 0x44800000#32))
      let v := F32.mul (F32.mul source envelope) x.amp
      let pn := F32.mul (F32.add x.pan 0x3F800000#32) 0x3F000000#32
      let rest := granMix s g xs (F32.add l (F32.mul v (F32.sqrt (F32.sub 0x3F800000#32 pn))))
        (F32.add r (F32.mul v (F32.sqrt pn))) (d + 2)
      ∃ y, run = { grains := y :: rest.grains, l := rest.l, r := rest.r, draws := rest.draws } ∧
        y.pos = F32.settle d (F32.add x.pos (F32.div x.rate frames)) ∧
        y.phase = F32.settle (d + 1) (F32.add x.phase (F32.div 0x3F800000#32 (F32.ofNat x.dur))) ∧
        (y.active = false ↔ F32.le 0x3F800000#32 y.phase = true ∨ F32.le 0x3F800000#32 y.pos = true) ∧
        y.rate = x.rate ∧ y.amp = x.amp ∧ y.dur = x.dur ∧ y.pan = x.pan)) ∧
  ∀ (s : State) (p : GranParams) (g : Gran) (d : Nat),
    granBlock s p 0 g d = { outL := [], outR := [], gran := g, draws := d } ∧
    ∀ n,
      let ticked := granTick s.numerics p g d
      let mix := granMix s ticked ticked.grains 0x00000000#32 0x00000000#32 (d + 1)
      let rest := granBlock s p n { ticked with grains := mix.grains } (mix.draws + 2)
      granBlock s p (n + 1) g d =
        { outL := F32.settle mix.draws (F32.mul mix.l p.norm) :: rest.outL
          outR := F32.settle (mix.draws + 1) (F32.mul mix.r p.norm) :: rest.outR
          gran := rest.gran, draws := rest.draws }

/-! ### Spectral (45_spectral.md) -/

/-- R217: SPEC_PROCESS clears both freeze flags when the clamped freeze amount is 0, runs the block through the engine
and writes both output blocks; only the spectral engine moves on. Sample k of the block is the pair of words at IN_L + 4k
and IN_R + 4k. The draws are the model's (log 8). -/
def Obligations.SpecProcessCompletes : Prop :=
  ∀ s : State, s.ready = true → s.blockSize ≤ 1024 →
    let p := specParams s
    let cleared : Spec :=
      if F32.eq p.freeze 0x00000000#32 = true then
        { s.spec with left := { s.spec.left with frozen := false }, right := { s.spec.right with frozen := false } }
      else s.spec
    let run := specBlock s.numerics p (inputBlock s) cleared s.nanDraws
    ((inputBlock s).length = s.blockSize ∧
      ∀ k, k < s.blockSize → (inputBlock s)[k]? = some (s.readWord (0x0000 + 4 * k), s.readWord (0x1000 + 4 * k))) ∧
    ∃ t, exec .specProcess s = .next t ∧
      WroteOutputs s t (fun k => run.outL.getD k 0#32) (fun k => run.outR.getD k 0#32) ∧
      t = { s with rc := .ok, trunc := false, result0 := 0#32, result1 := 0#32, arena := t.arena,
                   spec := run.spec, nanDraws := run.draws }

/-- R217: until the current hop is full, output sample k is the ring's word at the fill count, and the input words of
both channels enter the newest hop of the sliding buffer; so no output depends on an input of the same hop. Any one
sample, the one that completes the hop included, emits the two ring words, and the engine after it is `specEndSample` of
the engine with the two input words at 1536 and the fill count; short of 512 samples that only counts
(`Obligations.SpecResynthesisAndOverlapAdd` says what it does at 512). The first 512 output samples after the engine was
cleared are +0.0, whatever the input and parameters. That a move draws no NaN pattern is the model's way of
counting (log 8). -/
def Obligations.SpecWithinHop : Prop :=
  (∀ (cfg : Config.Numerics) (p : SpecParams) (xs : List (Word × Word)) (sp : Spec) (d : Nat),
    sp.fill + xs.length < 512 →
      let run := specBlock cfg p xs sp d
      (∀ k, k < xs.length →
        run.outL.getD k 0#32 = sp.left.outRing.getD (sp.fill + k) 0#32 ∧
        run.outR.getD k 0#32 = sp.right.outRing.getD (sp.fill + k) 0#32) ∧
      run.draws = d ∧
      run.spec =
        { left := { sp.left with inBuf := run.spec.left.inBuf }
          right := { sp.right with inBuf := run.spec.right.inBuf }
          fill := sp.fill + xs.length } ∧
      (∀ j, j < sp.left.inBuf.length →
        run.spec.left.inBuf.getD j 0#32 =
          if 1536 + sp.fill ≤ j ∧ j < 1536 + sp.fill + xs.length then (xs.getD (j - 1536 - sp.fill) (0#32, 0#32)).1
          else sp.left.inBuf.getD j 0#32) ∧
      ∀ j, j < sp.right.inBuf.length →
        run.spec.right.inBuf.getD j 0#32 =
          if 1536 + sp.fill ≤ j ∧ j < 1536 + sp.fill + xs.length then (xs.getD (j - 1536 - sp.fill) (0#32, 0#32)).2
          else sp.right.inBuf.getD j 0#32) ∧
  (∀ (cfg : Config.Numerics) (p : SpecParams) (x : Word × Word) (sp : Spec) (d : Nat),
    let run := specBlock cfg p [x] sp d
    run.outL = [sp.left.outRing.getD sp.fill 0#32] ∧ run.outR = [sp.right.outRing.getD sp.fill 0#32] ∧
    (run.spec, run.draws) =
      specEndSample cfg p
        { sp with
          left := { sp.left with inBuf := sp.left.inBuf.set (1536 + sp.fill) x.1 }
          right := { sp.right with inBuf := sp.right.inBuf.set (1536 + sp.fill) x.2 } } d) ∧
  (∀ (cfg : Config.Numerics) (p : SpecParams) (sp : Spec) (d : Nat), sp.fill + 1 ≠ 512 →
    specEndSample cfg p sp d = ({ sp with fill := sp.fill + 1 }, d)) ∧
  ∀ (cfg : Config.Numerics) (p : SpecParams) (xs : List (Word × Word)) (d k : Nat), k < xs.length → k < 512 →
    (specBlock cfg p xs specClear d).outL.getD k 0x1#32 = 0x00000000#32 ∧
    (specBlock cfg p xs specClear d).outR.getD k 0x1#32 = 0x00000000#32

/-- R215, R222: after SPEC_PROCESS both freeze flags are clear when the freeze amount is 0. When it is above 0 a flag is
set exactly if it was set before or the block completed a hop. -/
def Obligations.SpecFreezeFlags : Prop :=
  ∀ s t : State, s.ready = true → s.spec.fill < 512 → exec .specProcess s = .next t →
    (F32.eq (specParams s).freeze 0x00000000#32 = true →
      t.spec.left.frozen = false ∧ t.spec.right.frozen = false) ∧
    (F32.lt 0x00000000#32 (specParams s).freeze = true →
      t.spec.left.frozen = (s.spec.left.frozen || decide (512 ≤ s.spec.fill + s.blockSize)) ∧
      t.spec.right.frozen = (s.spec.right.frozen || decide (512 ≤ s.spec.fill + s.blockSize)))

/-- R220, R221: the freeze step, when the freeze amount is above 0, captures the snapshot only if the channel is not
frozen yet and blends magnitude and phase toward it. The shift step, when the shift is active, reads bin `k / r` with
linear interpolation for destination bin k, and is silent beyond bin 1024. The draws are the model's (log 8). -/
def Obligations.SpecFreezeAndShiftSteps : Prop :=
  (∀ (fa : Word) (ch : SpecChan) (m : Polar) (d : Nat),
    (F32.lt 0x00000000#32 fa = false → freezeStep fa ch m d = (ch, m)) ∧
    (F32.lt 0x00000000#32 fa = true →
      (freezeStep fa ch m d).1 =
        { ch with
          frozen := true
          frozenMag := if ch.frozen = true then ch.frozenMag else m.mag
          frozenPhase := if ch.frozen = true then ch.frozenPhase else m.phase } ∧
      ∀ k, k < 1025 →
        (freezeStep fa ch m d).2.mag.getD k 0#32 =
          F32.settle (d + k)
            (F32.lerp (m.mag.getD k 0#32) ((freezeStep fa ch m d).1.frozenMag.getD k 0#32) fa) ∧
        (freezeStep fa ch m d).2.phase.getD k 0#32 =
          F32.settle (d + 1025 + k)
            (F32.lerp (m.phase.getD k 0#32) ((freezeStep fa ch m d).1.frozenPhase.getD k 0#32)
              (F32.mul 0x3F666666#32 fa)))) ∧
  ∀ (p : SpecParams) (m : Polar) (d : Nat),
    (p.shiftActive = false → shiftStep p m d = m) ∧
    (p.shiftActive = true → ∀ k, k < 1025 →
      let sb := F32.div (F32.ofNat k) p.ratio
      let i0 := min (F32.toIndex (F32.floor sb)) 1023
      let fr := F32.sub sb (F32.ofNat i0)
      (F32.lt (F32.ofNat 1024) sb = true →
        (shiftStep p m d).mag.getD k 0x1#32 = 0x00000000#32 ∧ (shiftStep p m d).phase.getD k 0x1#32 = 0x00000000#32) ∧
      (F32.lt (F32.ofNat 1024) sb = false →
        (shiftStep p m d).mag.getD k 0#32 =
          F32.settle (d + k) (F32.lerp (m.mag.getD i0 0#32) (m.mag.getD (i0 + 1) 0#32) fr) ∧
        (shiftStep p m d).phase.getD k 0#32 =
          F32.settle (d + 1025 + k) (F32.lerp (m.phase.getD i0 0#32) (m.phase.getD (i0 + 1) 0#32) fr)))

/-- R223, R126: the phase vocoder accumulates, per bin, the wrapped deviation from the expected advance, scaled by the
ratio, into the synthesis phase. The draws are the model's (log 8). -/
def Obligations.SpecPhaseVocoder : Prop :=
  ∀ (r : Word) (ch : SpecChan) (phase : List Word) (d k : Nat), k < 1025 →
    let wrap : Word → Word := fun x =>
      F32.sub x (F32.mul 0x40C90FDB#32 (F32.floor (F32.div (F32.add x 0x40490FDB#32) 0x40C90FDB#32)))
    let step := F32.mul (F32.ofNat k) 0x3FC90FDB#32
    let expected := F32.add (ch.prevPhase.getD k 0#32) step
    let trueF := F32.add step (wrap (F32.sub (phase.getD k 0#32) expected))
    (vocoded r ch phase d).getD k 0#32 =
      F32.settle (d + k) (wrap (F32.add (ch.synthPhase.getD k 0#32) (F32.mul trueF r)))

/-- R217, R219 to R225: the sample that completes the hop runs the frame on the left and then on the right channel and
empties the fill count. The frame: the window times the sliding buffer is transformed; each bin 0..1025 gives its
magnitude and its phase; the freeze step, the shift step and the phase vocoder follow in this order
(`Obligations.SpecFreezeAndShiftSteps`, `Obligations.SpecPhaseVocoder`); the phase after the shift becomes the previous
phase; bin k of the resynthesis is (M2 * COS, M2 * SIN) of its synthesis phase, with DC and Nyquist real and the upper
bins the conjugates; its inverse transform times the window, times 2^-11 (log 14), is the frame that is added at 0..2048
to the ring shifted left by 512; and the sliding buffer is shifted left by 512 and zero-filled. The draws are
the model's (log 8). -/
def Obligations.SpecResynthesisAndOverlapAdd : Prop :=
  (∀ (cfg : Config.Numerics) (p : SpecParams) (sp : Spec) (d : Nat), sp.fill + 1 = 512 →
    specEndSample cfg p sp d =
      ({ left := specFrame cfg p sp.left d, right := specFrame cfg p sp.right (d + 17417), fill := 0 }, d + 34834)) ∧
  (∀ (cfg : Config.Numerics) (p : SpecParams) (ch : SpecChan) (d : Nat),
    let input : List C32 := (List.range 2048).map (fun n =>
      ⟨F32.settle (d + n) (F32.mul (ch.inBuf.getD n 0#32) (hannWindow n)), 0x00000000#32⟩)
    let x := C32.settleList (d + 2048) (fft cfg 2048 input)
    let bin : Nat → C32 := fun k => x.getD k ⟨0#32, 0#32⟩
    let polar : Polar :=
      { mag := (List.range 1025).map (fun k =>
          F32.settle (d + 6144 + k)
            (F32.sqrt (F32.add (F32.mul (bin k).re (bin k).re) (F32.mul (bin k).im (bin k).im))))
        phase := (List.range 1025).map (fun k => F32.settle (d + 7169 + k) (F32.atan2 cfg (bin k).im (bin k).re)) }
    let frozen := freezeStep p.freeze ch polar (d + 8194)
    let shifted := shiftStep p frozen.2 (d + 10244)
    let synth := vocoded p.effectiveRatio ch shifted.phase (d + 12294)
    let z := ifft cfg 2048 (resynthSpectrum cfg shifted.mag synth (d + 13319))
    let frame := (List.range 2048).map (fun n =>
      F32.mul (F32.mul (z.getD n ⟨0#32, 0#32⟩).re (hannWindow n)) 0x3A000000#32)
    specFrame cfg p ch d =
      { frozen.1 with
        inBuf := shiftedInput ch.inBuf, outRing := overlapRing ch.outRing frame (d + 15369)
        prevPhase := shifted.phase, synthPhase := synth }) ∧
  (∀ (cfg : Config.Numerics) (mag synth : List Word) (d : Nat),
    let y := resynthSpectrum cfg mag synth d
    y.length = 2048 ∧
    (∀ k, k < 1025 →
      let m := mag.getD k 0#32
      let ph := synth.getD k 0#32
      y.getD k ⟨0#32, 0#32⟩ =
        { re := F32.settle (d + 2 * k) (F32.mul m (F32.cos cfg ph))
          im := if k = 0 ∨ k = 1024 then 0x00000000#32
                else F32.settle (d + 2 * k + 1) (F32.mul m (F32.sin cfg ph)) }) ∧
    ∀ k, 1 ≤ k → k < 1024 →
      (y.getD (2048 - k) ⟨0#32, 0#32⟩).re = (y.getD k ⟨0#32, 0#32⟩).re ∧
      (y.getD (2048 - k) ⟨0#32, 0#32⟩).im = F32.neg (y.getD k ⟨0#32, 0#32⟩).im) ∧
  ∀ (ring frame inBuf : List Word) (d : Nat), ring.length = 4096 →
    (∀ k, k < 2048 →
      (overlapRing ring frame d).getD k 0#32 =
        F32.settle (d + k) (F32.add (ring.getD (k + 512) 0#32) (frame.getD k 0#32))) ∧
    (∀ k, 2048 ≤ k → k < 4096 → (overlapRing ring frame d).getD k 0x1#32 = ring.getD (k + 512) 0#32) ∧
    ∀ k, k < 2048 →
      (shiftedInput inBuf).getD k 0x1#32 = if k < 1536 then inBuf.getD (k + 512) 0#32 else 0x00000000#32

/-- R179, R198, R217: where a host block ends is not observable: a block is the block of its first part followed by
the block of its second part, for each of the three engines. That the count of drawn NaN patterns and the patterns
themselves agree too is the model's numbering of the draws (log 8), which R107 leaves free. -/
def Obligations.BlocksJoin : Prop :=
  (∀ (cfg : Config.Numerics) (dry wet : Word) (xs ys : List (Word × Word)) (c : Conv) (d : Nat),
    let a := convBlock cfg dry wet xs c d
    let b := convBlock cfg dry wet ys a.conv a.draws
    convBlock cfg dry wet (xs ++ ys) c d =
      { outL := a.outL ++ b.outL, outR := a.outR ++ b.outR, conv := b.conv, draws := b.draws }) ∧
  (∀ (s : State) (p : GranParams) (m n : Nat) (g : Gran) (d : Nat),
    let a := granBlock s p m g d
    let b := granBlock s p n a.gran a.draws
    granBlock s p (m + n) g d =
      { outL := a.outL ++ b.outL, outR := a.outR ++ b.outR, gran := b.gran, draws := b.draws }) ∧
  (∀ (cfg : Config.Numerics) (p : SpecParams) (xs ys : List (Word × Word)) (sp : Spec) (d : Nat),
    let a := specBlock cfg p xs sp d
    let b := specBlock cfg p ys a.spec a.draws
    specBlock cfg p (xs ++ ys) sp d =
      { outL := a.outL ++ b.outL, outR := a.outR ++ b.outR, spec := b.spec, draws := b.draws })

/-- A part of R140: after a successful INIT, and whatever the host then writes to ARG0 to ARG4 (R23), a CONV_PROCESS or
GRAN_PROCESS on the input that INIT zeroed writes all +0.0, and a SPEC_PROCESS on it writes +0.0 to its first 512
samples; for any configuration of the numerics. -/
def Obligations.FirstBlocksAfterInitAreSilent : Prop :=
  ∀ (s t : State), exec .init s = .next t → t.rc = .ok →
    ∀ a0 a1 a2 a3 a4 : Word, ∀ i ∈ [Instr.convProcess, .granProcess, .specProcess],
      ∃ u, exec i { t with arg0 := a0, arg1 := a1, arg2 := a2, arg3 := a3, arg4 := a4 } = .next u ∧ u.rc = .ok ∧
        ∀ k, k < t.blockSize → (i = .specProcess → k < 512) →
          u.readWord (0x2000 + 4 * k) = 0x00000000#32 ∧ u.readWord (0x3000 + 4 * k) = 0x00000000#32

/-- The model's own stop (log 11): a process command whose block, or whose recorded source, would leave its region
faults. `Obligations.StepKeepsTheInvariant` shows that no run reaches such a state. -/
def Obligations.BlocksBeyondTheirRegionFault : Prop :=
  ∀ s : State, s.ready = true →
    (1024 < s.blockSize → ∀ i ∈ [Instr.convProcess, .granProcess, .specProcess],
      exec i s = .fault (.undecoded 0x2000)) ∧
    (s.blockSize ≤ 1024 → s.srcLoaded = true → 882000 < s.gran.srcFrames * s.gran.srcChannels →
      exec .granProcess s = .fault (.undecoded 0x8000))

/-! ### The host's moves (20_memory.md, 10_state.md section 1) -/

/-- R20 to R33: what the host reads at each register offset, and that the read changes nothing else. The record of
reads is the model's (log 3). -/
def Obligations.RegisterReads : Prop :=
  ∀ (s : State) (off : Word) (rest : List HostEvent), s.pending = .regRead off :: rest → off.toNat % 4 = 0 →
    off.toNat < 0x100 →
      let view : List (Nat × Word) :=
        [(0x00, s.cmd), (0x04, s.status), (0x08, s.arg0), (0x0C, s.arg1), (0x10, s.arg2), (0x14, s.arg3),
         (0x18, s.arg4), (0x1C, s.result0), (0x20, s.result1),
         (0x24, if s.ready = true then s.sampleRate else 0x472C4400#32),
         (0x28, if s.ready = true then BitVec.ofNat 32 s.blockSize else 128#32),
         (0x2C, if s.irLoaded = true then BitVec.ofNat 32 s.conv.parts else 0#32),
         (0x30, BitVec.ofNat 32 (s.gran.grains.countP (fun g => g.active))),
         (0x34, if s.srcLoaded = true then BitVec.ofNat 32 s.gran.srcFrames else 0#32),
         (0x38, if s.srcLoaded = true then BitVec.ofNat 32 s.gran.srcChannels else 0#32),
         (0x3C, s.gran.rng), (0x40, 0x52415331#32), (0x44, 0x01000400#32), (0x48, 0x006406BB#32)]
      (∀ r ∈ view, off.toNat = r.1 → step s = .next { s with pending := rest, seen := r.2 :: s.seen }) ∧
      ((∀ r ∈ view, off.toNat ≠ r.1) → step s = .next { s with pending := rest, seen := 0#32 :: s.seen })

/-- R22, R240: the fields of STATUS, and the eight result codes of RC. Bits 31:15 and BUSY read 0. -/
def Obligations.StatusFields : Prop :=
  (∀ s : State,
    s.status.extractLsb' 0 8 = s.rc.byte ∧ s.status.getLsbD 8 = false ∧ s.status.getLsbD 9 = s.ready ∧
    s.status.getLsbD 10 = s.irLoaded ∧ s.status.getLsbD 11 = s.srcLoaded ∧
    s.status.getLsbD 12 = s.spec.left.frozen ∧ s.status.getLsbD 13 = s.spec.right.frozen ∧
    s.status.getLsbD 14 = s.trunc ∧ s.status.extractLsb' 15 17 = 0#17) ∧
  ResultCode.ok.byte = 0x00#8 ∧ ResultCode.badRate.byte = 0x01#8 ∧ ResultCode.badBlock.byte = 0x02#8 ∧
  ResultCode.notInit.byte = 0x03#8 ∧ ResultCode.badChannel.byte = 0x04#8 ∧
  ResultCode.badChannelCount.byte = 0x05#8 ∧ ResultCode.badSpan.byte = 0x06#8 ∧ ResultCode.illegalCmd.byte = 0x07#8

/-- R23, R30, R33: a host write to ARG0 to ARG4 or RNG_STATE stores the word; a write to any other register but CMD is
ignored. Nothing else changes. -/
def Obligations.RegisterWrites : Prop :=
  ∀ (s : State) (off w : Word) (rest : List HostEvent), s.pending = .regWrite off w :: rest → off.toNat % 4 = 0 →
    off.toNat < 0x100 → off.toNat ≠ 0 →
      let written : List (Nat × State) :=
        [(0x08, { s with pending := rest, arg0 := w }), (0x0C, { s with pending := rest, arg1 := w }),
         (0x10, { s with pending := rest, arg2 := w }), (0x14, { s with pending := rest, arg3 := w }),
         (0x18, { s with pending := rest, arg4 := w }),
         (0x3C, { s with pending := rest, gran := { s.gran with rng := w } })]
      (∀ r ∈ written, off.toNat = r.1 → step s = .next r.2) ∧
      ((∀ r ∈ written, off.toNat ≠ r.1) → step s = .next { s with pending := rest })

/-- R66, R61: a host write of an aligned decoded arena word stores its four bytes, the least significant at the lowest
offset, and leaves every other byte; a host read returns the word of the four bytes. The record of reads is the
model's (log 3). -/
def Obligations.ArenaAccesses : Prop :=
  ∀ (s : State) (off : Word) (rest : List HostEvent), off.toNat % 4 = 0 → decoded off.toNat = true →
    (∀ w, s.pending = .arenaWrite off w :: rest →
      ∃ t, step s = .next t ∧ t = { s with pending := rest, arena := t.arena } ∧
        t.readWord off.toNat = w ∧
        t.readByte off.toNat = w.extractLsb' 0 8 ∧ t.readByte (off.toNat + 1) = w.extractLsb' 8 8 ∧
        t.readByte (off.toNat + 2) = w.extractLsb' 16 8 ∧ t.readByte (off.toNat + 3) = w.extractLsb' 24 8 ∧
        ∀ a, a < off.toNat ∨ off.toNat + 4 ≤ a → t.readByte a = s.readByte a) ∧
    (s.pending = .arenaRead off :: rest →
      step s = .next { s with
        pending := rest
        seen := (s.readByte (off.toNat + 3) ++ (s.readByte (off.toNat + 2) ++ (s.readByte (off.toNat + 1) ++
          s.readByte off.toNat))) :: s.seen })

/-- R66, R67: a host access that is misaligned, of another width, or outside what is decoded is refused. -/
def Obligations.MalformedHostAccessesAreRefused : Prop :=
  ∀ (s : State) (e : HostEvent) (rest : List HostEvent), s.pending = e :: rest →
    (e.legal = false ↔ ∃ r, step s = .refused r)

/-- R260 to R262: the reset input gives every element its reset value and runs no command. What the model adds goes
on: the host's events and record, the draws, the configuration; SRC and IR hold new draws (log 18, log 9). -/
def Obligations.PowerOnReset : Prop :=
  ∀ (s : State) (rest : List HostEvent), s.pending = .powerOn :: rest →
    step s = .next { State.reset with
      pending := rest, seen := s.seen, nanDraws := s.nanDraws, powerCycles := s.powerCycles + 1,
      numerics := s.numerics }

/-- R261, R262: the reset values, as the host reads them and inside. -/
def Obligations.ResetValues : Prop :=
  (∀ off ∈ [0x00, 0x04, 0x08, 0x0C, 0x10, 0x14, 0x18, 0x1C, 0x20, 0x2C, 0x30, 0x34, 0x38],
    State.reset.regRead off = 0#32) ∧
  State.reset.regRead 0x24 = 0x472C4400#32 ∧ State.reset.regRead 0x28 = 128#32 ∧
  State.reset.regRead 0x3C = 0x00003039#32 ∧ State.reset.regRead 0x40 = 0x52415331#32 ∧
  State.reset.regRead 0x44 = 0x01000400#32 ∧ State.reset.regRead 0x48 = 0x006406BB#32 ∧
  State.reset.sampleRate = 0#32 ∧ State.reset.blockSize = 0 ∧ State.reset.ready = false ∧
  State.reset.irLoaded = false ∧ State.reset.srcLoaded = false ∧
  State.reset.conv.parts = 0 ∧ State.reset.conv.fill = 0 ∧ State.reset.conv.pos = 0 ∧
  (∀ ch ∈ [State.reset.conv.left, State.reset.conv.right], ch.input = List.replicate 128 0#32 ∧
    ch.tail = List.replicate 256 0#32) ∧
  State.reset.gran.grains = List.replicate 100 ⟨false, 0#32, 0#32, 0#32, 0#32, 0, 0#32⟩ ∧
  State.reset.gran.acc = 0#32 ∧ State.reset.gran.srcFrames = 0 ∧ State.reset.gran.srcChannels = 0 ∧
  (∀ ch ∈ [State.reset.spec.left, State.reset.spec.right],
    ch = ⟨List.replicate 2048 0#32, List.replicate 4096 0#32, List.replicate 1025 0#32, List.replicate 1025 0#32,
      List.replicate 1025 0#32, List.replicate 1025 0#32, false⟩) ∧
  State.reset.spec.fill = 0 ∧ ∀ a, a < 0x8000 → State.reset.readByte a = 0#8

/-! ### Numbers (40_numerics.md) -/

/-- R107, log 8: whatever pattern is drawn, it is a quiet NaN; and a stored value is a NaN exactly when the computed one
is, and the same word when it is not. A list is stored element by element, one draw index for each word and two for
each complex value. -/
def Obligations.DrawnPatternsAreQuietNaNs : Prop :=
  (∀ (n : Nat) (w : Word),
    F32.isNaN (F32.drawNaN n) = true ∧ (F32.drawNaN n).getLsbD 22 = true ∧
    F32.isNaN (F32.settle n w) = F32.isNaN w ∧ (F32.isNaN w = false → F32.settle n w = w)) ∧
  (∀ (n : Nat) (ws : List Word),
    (F32.settleList n ws).length = ws.length ∧
    ∀ i, i < ws.length → (F32.settleList n ws).getD i 0#32 = F32.settle (n + i) (ws.getD i 0#32)) ∧
  ∀ (n : Nat) (zs : List C32),
    (C32.settleList n zs).length = zs.length ∧
    ∀ i, i < zs.length →
      (C32.settleList n zs).getD i ⟨0#32, 0#32⟩ =
        ⟨F32.settle (n + 2 * i) (zs.getD i ⟨0#32, 0#32⟩).re, F32.settle (n + 2 * i + 1) (zs.getD i ⟨0#32, 0#32⟩).im⟩

/-- R155's corner case: `x * 1.0 = x` for every x that is no NaN, zeros, subnormals and infinities included. -/
def Obligations.MultiplyingByOneIsExact : Prop :=
  ∀ x : Word, F32.isNaN x = false → F32.mul x 0x3F800000#32 = x

/-- R109: the parameter clamp answers the NaN value for a NaN, the bound that a value lies beyond, and else the value
itself; so the result of a number lies within the bounds. -/
def Obligations.ClampStaysInRange : Prop :=
  ∀ x lo hi nv : Word, F32.le lo hi = true →
    (F32.isNaN x = true → F32.clampP x lo hi nv = nv) ∧
    (F32.lt x lo = true → F32.clampP x lo hi nv = lo) ∧
    (F32.lt hi x = true → F32.clampP x lo hi nv = hi) ∧
    (F32.le lo x = true → F32.le x hi = true → F32.clampP x lo hi nv = x) ∧
    (F32.isNaN x = false →
      F32.le lo (F32.clampP x lo hi nv) = true ∧ F32.le (F32.clampP x lo hi nv) hi = true)

/-! ### Invariants and safety -/

/-- The invariant holds right after power-on reset. -/
def Obligations.InvariantHoldsAtReset : Prop := State.reset.Inv

/-- R37 to R42, R175, R195, R222, R225: every step keeps the invariant, from every state that has it: the arena's
canonical form, the valid configuration, the engines' shapes and bounds, the equal freeze flags and the zero upper
half of the output rings. -/
def Obligations.StepKeepsTheInvariant : Prop :=
  ∀ s t : State, s.Inv → step s = .next t → t.Inv

/-- R108, R247, R66, R67: nothing in the core is fatal: from every state with the invariant, a step whose event the spec
gives a meaning completes, whatever the event, the command word, the operands and the data. -/
def Obligations.LegalEventsAlwaysComplete : Prop :=
  ∀ (s : State) (e : HostEvent) (rest : List HostEvent), s.Inv → s.pending = e :: rest → e.legal = true →
    ∃ t, step s = .next t

/-- R41, R206: between commands no active grain has reached the end of its envelope or of the source; and the pool never
grows: the number of active grains that GRAIN_ACTIVE shows is at most 100. -/
def Obligations.GrainPoolIsBounded : Prop :=
  (∀ s t : State, s.gran.Live → step s = .next t → t.gran.Live) ∧
  ∀ s t : State, s.Inv → step s = .next t → t.gran.activeCount ≤ 100 ∧ (t.regRead 0x30).toNat = t.gran.activeCount
end

