-- ==== Sys2Proof/Laws/State.lean ====
section
/-! SUPPORT. One lemma per field per update of the state, so that no later proof unfolds a record update. -/

namespace Sys2Proof.Machine

variable (s : State) (c : ResultCode) (b : Bool) (r0 r1 w : Word) (off : Nat) (ws : List Word) (es : List HostEvent)

/-! ### raiseRC -/

@[simp] theorem raiseRC_cmd : (raiseRC c s).cmd = s.cmd := rfl
@[simp] theorem raiseRC_arg0 : (raiseRC c s).arg0 = s.arg0 := rfl
@[simp] theorem raiseRC_arg1 : (raiseRC c s).arg1 = s.arg1 := rfl
@[simp] theorem raiseRC_arg2 : (raiseRC c s).arg2 = s.arg2 := rfl
@[simp] theorem raiseRC_arg3 : (raiseRC c s).arg3 = s.arg3 := rfl
@[simp] theorem raiseRC_arg4 : (raiseRC c s).arg4 = s.arg4 := rfl
@[simp] theorem raiseRC_rc : (raiseRC c s).rc = c := rfl
@[simp] theorem raiseRC_trunc : (raiseRC c s).trunc = false := rfl
@[simp] theorem raiseRC_result0 : (raiseRC c s).result0 = Config.nullOff := rfl
@[simp] theorem raiseRC_result1 : (raiseRC c s).result1 = 0#32 := rfl
@[simp] theorem raiseRC_sampleRate : (raiseRC c s).sampleRate = s.sampleRate := rfl
@[simp] theorem raiseRC_blockSize : (raiseRC c s).blockSize = s.blockSize := rfl
@[simp] theorem raiseRC_ready : (raiseRC c s).ready = s.ready := rfl
@[simp] theorem raiseRC_irLoaded : (raiseRC c s).irLoaded = s.irLoaded := rfl
@[simp] theorem raiseRC_srcLoaded : (raiseRC c s).srcLoaded = s.srcLoaded := rfl
@[simp] theorem raiseRC_conv : (raiseRC c s).conv = s.conv := rfl
@[simp] theorem raiseRC_gran : (raiseRC c s).gran = s.gran := rfl
@[simp] theorem raiseRC_spec : (raiseRC c s).spec = s.spec := rfl
@[simp] theorem raiseRC_arena : (raiseRC c s).arena = s.arena := rfl
@[simp] theorem raiseRC_pending : (raiseRC c s).pending = s.pending := rfl
@[simp] theorem raiseRC_seen : (raiseRC c s).seen = s.seen := rfl
@[simp] theorem raiseRC_nanDraws : (raiseRC c s).nanDraws = s.nanDraws := rfl
@[simp] theorem raiseRC_powerCycles : (raiseRC c s).powerCycles = s.powerCycles := rfl
@[simp] theorem raiseRC_numerics : (raiseRC c s).numerics = s.numerics := rfl

/-! ### finishTrunc -/

@[simp] theorem finishTrunc_cmd : (finishTrunc b r0 r1 s).cmd = s.cmd := rfl
@[simp] theorem finishTrunc_arg0 : (finishTrunc b r0 r1 s).arg0 = s.arg0 := rfl
@[simp] theorem finishTrunc_arg1 : (finishTrunc b r0 r1 s).arg1 = s.arg1 := rfl
@[simp] theorem finishTrunc_arg2 : (finishTrunc b r0 r1 s).arg2 = s.arg2 := rfl
@[simp] theorem finishTrunc_arg3 : (finishTrunc b r0 r1 s).arg3 = s.arg3 := rfl
@[simp] theorem finishTrunc_arg4 : (finishTrunc b r0 r1 s).arg4 = s.arg4 := rfl
@[simp] theorem finishTrunc_rc : (finishTrunc b r0 r1 s).rc = .ok := rfl
@[simp] theorem finishTrunc_trunc : (finishTrunc b r0 r1 s).trunc = b := rfl
@[simp] theorem finishTrunc_result0 : (finishTrunc b r0 r1 s).result0 = r0 := rfl
@[simp] theorem finishTrunc_result1 : (finishTrunc b r0 r1 s).result1 = r1 := rfl
@[simp] theorem finishTrunc_sampleRate : (finishTrunc b r0 r1 s).sampleRate = s.sampleRate := rfl
@[simp] theorem finishTrunc_blockSize : (finishTrunc b r0 r1 s).blockSize = s.blockSize := rfl
@[simp] theorem finishTrunc_ready : (finishTrunc b r0 r1 s).ready = s.ready := rfl
@[simp] theorem finishTrunc_irLoaded : (finishTrunc b r0 r1 s).irLoaded = s.irLoaded := rfl
@[simp] theorem finishTrunc_srcLoaded : (finishTrunc b r0 r1 s).srcLoaded = s.srcLoaded := rfl
@[simp] theorem finishTrunc_conv : (finishTrunc b r0 r1 s).conv = s.conv := rfl
@[simp] theorem finishTrunc_gran : (finishTrunc b r0 r1 s).gran = s.gran := rfl
@[simp] theorem finishTrunc_spec : (finishTrunc b r0 r1 s).spec = s.spec := rfl
@[simp] theorem finishTrunc_arena : (finishTrunc b r0 r1 s).arena = s.arena := rfl
@[simp] theorem finishTrunc_pending : (finishTrunc b r0 r1 s).pending = s.pending := rfl
@[simp] theorem finishTrunc_seen : (finishTrunc b r0 r1 s).seen = s.seen := rfl
@[simp] theorem finishTrunc_nanDraws : (finishTrunc b r0 r1 s).nanDraws = s.nanDraws := rfl
@[simp] theorem finishTrunc_powerCycles : (finishTrunc b r0 r1 s).powerCycles = s.powerCycles := rfl
@[simp] theorem finishTrunc_numerics : (finishTrunc b r0 r1 s).numerics = s.numerics := rfl

/-! ### finish -/

@[simp] theorem finish_cmd : (finish r0 r1 s).cmd = s.cmd := rfl
@[simp] theorem finish_arg0 : (finish r0 r1 s).arg0 = s.arg0 := rfl
@[simp] theorem finish_arg1 : (finish r0 r1 s).arg1 = s.arg1 := rfl
@[simp] theorem finish_arg2 : (finish r0 r1 s).arg2 = s.arg2 := rfl
@[simp] theorem finish_arg3 : (finish r0 r1 s).arg3 = s.arg3 := rfl
@[simp] theorem finish_arg4 : (finish r0 r1 s).arg4 = s.arg4 := rfl
@[simp] theorem finish_rc : (finish r0 r1 s).rc = .ok := rfl
@[simp] theorem finish_trunc : (finish r0 r1 s).trunc = false := rfl
@[simp] theorem finish_result0 : (finish r0 r1 s).result0 = r0 := rfl
@[simp] theorem finish_result1 : (finish r0 r1 s).result1 = r1 := rfl
@[simp] theorem finish_sampleRate : (finish r0 r1 s).sampleRate = s.sampleRate := rfl
@[simp] theorem finish_blockSize : (finish r0 r1 s).blockSize = s.blockSize := rfl
@[simp] theorem finish_ready : (finish r0 r1 s).ready = s.ready := rfl
@[simp] theorem finish_irLoaded : (finish r0 r1 s).irLoaded = s.irLoaded := rfl
@[simp] theorem finish_srcLoaded : (finish r0 r1 s).srcLoaded = s.srcLoaded := rfl
@[simp] theorem finish_conv : (finish r0 r1 s).conv = s.conv := rfl
@[simp] theorem finish_gran : (finish r0 r1 s).gran = s.gran := rfl
@[simp] theorem finish_spec : (finish r0 r1 s).spec = s.spec := rfl
@[simp] theorem finish_arena : (finish r0 r1 s).arena = s.arena := rfl
@[simp] theorem finish_pending : (finish r0 r1 s).pending = s.pending := rfl
@[simp] theorem finish_seen : (finish r0 r1 s).seen = s.seen := rfl
@[simp] theorem finish_nanDraws : (finish r0 r1 s).nanDraws = s.nanDraws := rfl
@[simp] theorem finish_powerCycles : (finish r0 r1 s).powerCycles = s.powerCycles := rfl
@[simp] theorem finish_numerics : (finish r0 r1 s).numerics = s.numerics := rfl

/-! ### State.writeWord -/

@[simp] theorem State.writeWord_cmd : (s.writeWord off w).cmd = s.cmd := rfl
@[simp] theorem State.writeWord_arg0 : (s.writeWord off w).arg0 = s.arg0 := rfl
@[simp] theorem State.writeWord_arg1 : (s.writeWord off w).arg1 = s.arg1 := rfl
@[simp] theorem State.writeWord_arg2 : (s.writeWord off w).arg2 = s.arg2 := rfl
@[simp] theorem State.writeWord_arg3 : (s.writeWord off w).arg3 = s.arg3 := rfl
@[simp] theorem State.writeWord_arg4 : (s.writeWord off w).arg4 = s.arg4 := rfl
@[simp] theorem State.writeWord_rc : (s.writeWord off w).rc = s.rc := rfl
@[simp] theorem State.writeWord_trunc : (s.writeWord off w).trunc = s.trunc := rfl
@[simp] theorem State.writeWord_result0 : (s.writeWord off w).result0 = s.result0 := rfl
@[simp] theorem State.writeWord_result1 : (s.writeWord off w).result1 = s.result1 := rfl
@[simp] theorem State.writeWord_sampleRate : (s.writeWord off w).sampleRate = s.sampleRate := rfl
@[simp] theorem State.writeWord_blockSize : (s.writeWord off w).blockSize = s.blockSize := rfl
@[simp] theorem State.writeWord_ready : (s.writeWord off w).ready = s.ready := rfl
@[simp] theorem State.writeWord_irLoaded : (s.writeWord off w).irLoaded = s.irLoaded := rfl
@[simp] theorem State.writeWord_srcLoaded : (s.writeWord off w).srcLoaded = s.srcLoaded := rfl
@[simp] theorem State.writeWord_conv : (s.writeWord off w).conv = s.conv := rfl
@[simp] theorem State.writeWord_gran : (s.writeWord off w).gran = s.gran := rfl
@[simp] theorem State.writeWord_spec : (s.writeWord off w).spec = s.spec := rfl
@[simp] theorem State.writeWord_arena : (s.writeWord off w).arena = Arena.writeWord s.arena off w := rfl
@[simp] theorem State.writeWord_pending : (s.writeWord off w).pending = s.pending := rfl
@[simp] theorem State.writeWord_seen : (s.writeWord off w).seen = s.seen := rfl
@[simp] theorem State.writeWord_nanDraws : (s.writeWord off w).nanDraws = s.nanDraws := rfl
@[simp] theorem State.writeWord_powerCycles : (s.writeWord off w).powerCycles = s.powerCycles := rfl
@[simp] theorem State.writeWord_numerics : (s.writeWord off w).numerics = s.numerics := rfl

/-! ### State.writeWords -/

@[simp] theorem State.writeWords_cmd : (s.writeWords off ws).cmd = s.cmd := rfl
@[simp] theorem State.writeWords_arg0 : (s.writeWords off ws).arg0 = s.arg0 := rfl
@[simp] theorem State.writeWords_arg1 : (s.writeWords off ws).arg1 = s.arg1 := rfl
@[simp] theorem State.writeWords_arg2 : (s.writeWords off ws).arg2 = s.arg2 := rfl
@[simp] theorem State.writeWords_arg3 : (s.writeWords off ws).arg3 = s.arg3 := rfl
@[simp] theorem State.writeWords_arg4 : (s.writeWords off ws).arg4 = s.arg4 := rfl
@[simp] theorem State.writeWords_rc : (s.writeWords off ws).rc = s.rc := rfl
@[simp] theorem State.writeWords_trunc : (s.writeWords off ws).trunc = s.trunc := rfl
@[simp] theorem State.writeWords_result0 : (s.writeWords off ws).result0 = s.result0 := rfl
@[simp] theorem State.writeWords_result1 : (s.writeWords off ws).result1 = s.result1 := rfl
@[simp] theorem State.writeWords_sampleRate : (s.writeWords off ws).sampleRate = s.sampleRate := rfl
@[simp] theorem State.writeWords_blockSize : (s.writeWords off ws).blockSize = s.blockSize := rfl
@[simp] theorem State.writeWords_ready : (s.writeWords off ws).ready = s.ready := rfl
@[simp] theorem State.writeWords_irLoaded : (s.writeWords off ws).irLoaded = s.irLoaded := rfl
@[simp] theorem State.writeWords_srcLoaded : (s.writeWords off ws).srcLoaded = s.srcLoaded := rfl
@[simp] theorem State.writeWords_conv : (s.writeWords off ws).conv = s.conv := rfl
@[simp] theorem State.writeWords_gran : (s.writeWords off ws).gran = s.gran := rfl
@[simp] theorem State.writeWords_spec : (s.writeWords off ws).spec = s.spec := rfl
@[simp] theorem State.writeWords_arena : (s.writeWords off ws).arena = Arena.writeWords s.arena off ws := rfl
@[simp] theorem State.writeWords_pending : (s.writeWords off ws).pending = s.pending := rfl
@[simp] theorem State.writeWords_seen : (s.writeWords off ws).seen = s.seen := rfl
@[simp] theorem State.writeWords_nanDraws : (s.writeWords off ws).nanDraws = s.nanDraws := rfl
@[simp] theorem State.writeWords_powerCycles : (s.writeWords off ws).powerCycles = s.powerCycles := rfl
@[simp] theorem State.writeWords_numerics : (s.writeWords off ws).numerics = s.numerics := rfl

/-! ### State.writeComputed -/

@[simp] theorem State.writeComputed_cmd : (s.writeComputed off ws).cmd = s.cmd := rfl
@[simp] theorem State.writeComputed_arg0 : (s.writeComputed off ws).arg0 = s.arg0 := rfl
@[simp] theorem State.writeComputed_arg1 : (s.writeComputed off ws).arg1 = s.arg1 := rfl
@[simp] theorem State.writeComputed_arg2 : (s.writeComputed off ws).arg2 = s.arg2 := rfl
@[simp] theorem State.writeComputed_arg3 : (s.writeComputed off ws).arg3 = s.arg3 := rfl
@[simp] theorem State.writeComputed_arg4 : (s.writeComputed off ws).arg4 = s.arg4 := rfl
@[simp] theorem State.writeComputed_rc : (s.writeComputed off ws).rc = s.rc := rfl
@[simp] theorem State.writeComputed_trunc : (s.writeComputed off ws).trunc = s.trunc := rfl
@[simp] theorem State.writeComputed_result0 : (s.writeComputed off ws).result0 = s.result0 := rfl
@[simp] theorem State.writeComputed_result1 : (s.writeComputed off ws).result1 = s.result1 := rfl
@[simp] theorem State.writeComputed_sampleRate : (s.writeComputed off ws).sampleRate = s.sampleRate := rfl
@[simp] theorem State.writeComputed_blockSize : (s.writeComputed off ws).blockSize = s.blockSize := rfl
@[simp] theorem State.writeComputed_ready : (s.writeComputed off ws).ready = s.ready := rfl
@[simp] theorem State.writeComputed_irLoaded : (s.writeComputed off ws).irLoaded = s.irLoaded := rfl
@[simp] theorem State.writeComputed_srcLoaded : (s.writeComputed off ws).srcLoaded = s.srcLoaded := rfl
@[simp] theorem State.writeComputed_conv : (s.writeComputed off ws).conv = s.conv := rfl
@[simp] theorem State.writeComputed_gran : (s.writeComputed off ws).gran = s.gran := rfl
@[simp] theorem State.writeComputed_spec : (s.writeComputed off ws).spec = s.spec := rfl
@[simp] theorem State.writeComputed_arena : (s.writeComputed off ws).arena = Arena.writeWords s.arena off (F32.settleList s.nanDraws ws) := rfl
@[simp] theorem State.writeComputed_pending : (s.writeComputed off ws).pending = s.pending := rfl
@[simp] theorem State.writeComputed_seen : (s.writeComputed off ws).seen = s.seen := rfl
@[simp] theorem State.writeComputed_nanDraws : (s.writeComputed off ws).nanDraws = s.nanDraws + ws.length := rfl
@[simp] theorem State.writeComputed_powerCycles : (s.writeComputed off ws).powerCycles = s.powerCycles := rfl
@[simp] theorem State.writeComputed_numerics : (s.writeComputed off ws).numerics = s.numerics := rfl

/-! ### State.takeEvent -/

@[simp] theorem State.takeEvent_cmd : (s.takeEvent es).cmd = s.cmd := rfl
@[simp] theorem State.takeEvent_arg0 : (s.takeEvent es).arg0 = s.arg0 := rfl
@[simp] theorem State.takeEvent_arg1 : (s.takeEvent es).arg1 = s.arg1 := rfl
@[simp] theorem State.takeEvent_arg2 : (s.takeEvent es).arg2 = s.arg2 := rfl
@[simp] theorem State.takeEvent_arg3 : (s.takeEvent es).arg3 = s.arg3 := rfl
@[simp] theorem State.takeEvent_arg4 : (s.takeEvent es).arg4 = s.arg4 := rfl
@[simp] theorem State.takeEvent_rc : (s.takeEvent es).rc = s.rc := rfl
@[simp] theorem State.takeEvent_trunc : (s.takeEvent es).trunc = s.trunc := rfl
@[simp] theorem State.takeEvent_result0 : (s.takeEvent es).result0 = s.result0 := rfl
@[simp] theorem State.takeEvent_result1 : (s.takeEvent es).result1 = s.result1 := rfl
@[simp] theorem State.takeEvent_sampleRate : (s.takeEvent es).sampleRate = s.sampleRate := rfl
@[simp] theorem State.takeEvent_blockSize : (s.takeEvent es).blockSize = s.blockSize := rfl
@[simp] theorem State.takeEvent_ready : (s.takeEvent es).ready = s.ready := rfl
@[simp] theorem State.takeEvent_irLoaded : (s.takeEvent es).irLoaded = s.irLoaded := rfl
@[simp] theorem State.takeEvent_srcLoaded : (s.takeEvent es).srcLoaded = s.srcLoaded := rfl
@[simp] theorem State.takeEvent_conv : (s.takeEvent es).conv = s.conv := rfl
@[simp] theorem State.takeEvent_gran : (s.takeEvent es).gran = s.gran := rfl
@[simp] theorem State.takeEvent_spec : (s.takeEvent es).spec = s.spec := rfl
@[simp] theorem State.takeEvent_arena : (s.takeEvent es).arena = s.arena := rfl
@[simp] theorem State.takeEvent_pending : (s.takeEvent es).pending = es := rfl
@[simp] theorem State.takeEvent_seen : (s.takeEvent es).seen = s.seen := rfl
@[simp] theorem State.takeEvent_nanDraws : (s.takeEvent es).nanDraws = s.nanDraws := rfl
@[simp] theorem State.takeEvent_powerCycles : (s.takeEvent es).powerCycles = s.powerCycles := rfl
@[simp] theorem State.takeEvent_numerics : (s.takeEvent es).numerics = s.numerics := rfl

/-! ### State.observe -/

@[simp] theorem State.observe_cmd : (s.observe w).cmd = s.cmd := rfl
@[simp] theorem State.observe_arg0 : (s.observe w).arg0 = s.arg0 := rfl
@[simp] theorem State.observe_arg1 : (s.observe w).arg1 = s.arg1 := rfl
@[simp] theorem State.observe_arg2 : (s.observe w).arg2 = s.arg2 := rfl
@[simp] theorem State.observe_arg3 : (s.observe w).arg3 = s.arg3 := rfl
@[simp] theorem State.observe_arg4 : (s.observe w).arg4 = s.arg4 := rfl
@[simp] theorem State.observe_rc : (s.observe w).rc = s.rc := rfl
@[simp] theorem State.observe_trunc : (s.observe w).trunc = s.trunc := rfl
@[simp] theorem State.observe_result0 : (s.observe w).result0 = s.result0 := rfl
@[simp] theorem State.observe_result1 : (s.observe w).result1 = s.result1 := rfl
@[simp] theorem State.observe_sampleRate : (s.observe w).sampleRate = s.sampleRate := rfl
@[simp] theorem State.observe_blockSize : (s.observe w).blockSize = s.blockSize := rfl
@[simp] theorem State.observe_ready : (s.observe w).ready = s.ready := rfl
@[simp] theorem State.observe_irLoaded : (s.observe w).irLoaded = s.irLoaded := rfl
@[simp] theorem State.observe_srcLoaded : (s.observe w).srcLoaded = s.srcLoaded := rfl
@[simp] theorem State.observe_conv : (s.observe w).conv = s.conv := rfl
@[simp] theorem State.observe_gran : (s.observe w).gran = s.gran := rfl
@[simp] theorem State.observe_spec : (s.observe w).spec = s.spec := rfl
@[simp] theorem State.observe_arena : (s.observe w).arena = s.arena := rfl
@[simp] theorem State.observe_pending : (s.observe w).pending = s.pending := rfl
@[simp] theorem State.observe_seen : (s.observe w).seen = w :: s.seen := rfl
@[simp] theorem State.observe_nanDraws : (s.observe w).nanDraws = s.nanDraws := rfl
@[simp] theorem State.observe_powerCycles : (s.observe w).powerCycles = s.powerCycles := rfl
@[simp] theorem State.observe_numerics : (s.observe w).numerics = s.numerics := rfl

end Sys2Proof.Machine
end

