-- ==== Sys2Proof/Laws/Arena.lean ====
section
/-! SUPPORT. The laws of the arena: a read after a write, bytes left alone, and the canonical form, which every
memory operation keeps. -/

namespace Sys2Proof.Machine

/-! ### One byte -/

theorem Arena.lookup_insert_self (a : Nat) (b : Byte) (m : Arena) : Arena.lookup (Arena.insert a b m) a = some b := by
  induction m with
  | nil => simp [Arena.insert, Arena.lookup]
  | cons c m ih =>
    simp only [Arena.insert]
    split
    · simp [Arena.lookup]
    · split
      · simp [Arena.lookup]
      · have : c.1 ≠ a := fun h => by omega
        simp [Arena.lookup, this, ih]

theorem Arena.lookup_insert_other {a a' : Nat} (h : a' ≠ a) (b : Byte) (m : Arena) :
    Arena.lookup (Arena.insert a b m) a' = Arena.lookup m a' := by
  induction m with
  | nil => simp [Arena.insert, Arena.lookup, h.symm]
  | cons c m ih =>
    simp only [Arena.insert]
    split
    · simp [Arena.lookup, h.symm]
    · split
      · rename_i h2
        have hc : c.1 ≠ a' := fun e => h (e ▸ h2 ▸ rfl)
        simp [Arena.lookup, h.symm, hc]
      · simp only [Arena.lookup, ih]

theorem Arena.lookup_erase_self (a : Nat) (m : Arena) : Arena.lookup (Arena.erase a m) a = none := by
  induction m with
  | nil => rfl
  | cons c m ih =>
    by_cases h : c.1 = a
    · simpa [Arena.erase, h] using ih
    · simpa [Arena.erase, h, Arena.lookup] using ih

theorem Arena.lookup_erase_other {a a' : Nat} (h : a' ≠ a) (m : Arena) :
    Arena.lookup (Arena.erase a m) a' = Arena.lookup m a' := by
  induction m with
  | nil => rfl
  | cons c m ih =>
    by_cases hc : c.1 = a
    · have hc' : c.1 ≠ a' := fun e => h (e ▸ hc)
      have : Arena.erase a (c :: m) = Arena.erase a m := by simp [Arena.erase, hc]
      simp [this, ih, Arena.lookup, hc']
    · have : Arena.erase a (c :: m) = c :: Arena.erase a m := by simp [Arena.erase, hc]
      simp [this, ih, Arena.lookup]

/-- A byte read after it was written. -/
@[simp] theorem Arena.byte_writeByte_self (p : Nat) (m : Arena) (a : Nat) (b : Byte) :
    Arena.byte p (Arena.writeByte m a b) a = b := by
  unfold Arena.writeByte
  split
  · rename_i h
    simp [Arena.byte, Arena.lookup_erase_self, h]
  · simp [Arena.byte, Arena.lookup_insert_self]

/-- A byte read after another one was written. -/
theorem Arena.byte_writeByte_other (p : Nat) (m : Arena) {a a' : Nat} (h : a' ≠ a) (b : Byte) :
    Arena.byte p (Arena.writeByte m a b) a' = Arena.byte p m a' := by
  unfold Arena.writeByte
  split
  · simp [Arena.byte, Arena.lookup_erase_other h]
  · simp [Arena.byte, Arena.lookup_insert_other h]

/-! ### One word -/

/-- A word is its four bytes, the least significant first (20_memory.md R61). -/
theorem word_of_bytes (w : Word) :
    w.extractLsb' 24 8 ++ (w.extractLsb' 16 8 ++ (w.extractLsb' 8 8 ++ w.extractLsb' 0 8)) = w := by
  apply BitVec.eq_of_getLsbD_eq
  intro i hi
  simp only [BitVec.getLsbD_append, BitVec.getLsbD_extractLsb']
  have h24 : 24 + (i - (8 + (8 + 8))) = i ∨ i < 8 + (8 + 8) := by omega
  have h16 : 16 + (i - (8 + 8)) = i ∨ i < 8 + 8 := by omega
  have h8 : 8 + (i - 8) = i ∨ i < 8 := by omega
  have d24 : i - (8 + (8 + 8)) < 8 := by omega
  split
  · split
    · split
      · rename_i h
        simp [h]
      · rw [h8.resolve_right ‹_›, decide_eq_true (by omega), Bool.true_and]
    · rw [h16.resolve_right ‹_›, decide_eq_true (by omega), Bool.true_and]
  · rw [h24.resolve_right ‹_›, decide_eq_true d24, Bool.true_and]

/-- A byte outside a written word is as before. -/
theorem Arena.byte_writeWord_other (p : Nat) (m : Arena) {off a : Nat} (h : a < off ∨ off + 4 ≤ a) (w : Word) :
    Arena.byte p (Arena.writeWord m off w) a = Arena.byte p m a := by
  unfold Arena.writeWord
  rw [Arena.byte_writeByte_other _ _ (by omega), Arena.byte_writeByte_other _ _ (by omega),
    Arena.byte_writeByte_other _ _ (by omega), Arena.byte_writeByte_other _ _ (by omega)]

/-- A word read after it was written. -/
@[simp] theorem Arena.word_writeWord_self (p : Nat) (m : Arena) (off : Nat) (w : Word) :
    Arena.word p (Arena.writeWord m off w) off = w := by
  unfold Arena.word Arena.writeWord
  rw [Arena.byte_writeByte_self,
    Arena.byte_writeByte_other _ _ (a' := off + 2) (by omega), Arena.byte_writeByte_self,
    Arena.byte_writeByte_other _ _ (a' := off + 1) (a := off + 3) (by omega),
    Arena.byte_writeByte_other _ _ (a' := off + 1) (by omega), Arena.byte_writeByte_self,
    Arena.byte_writeByte_other _ _ (a' := off) (a := off + 3) (by omega),
    Arena.byte_writeByte_other _ _ (a' := off) (a := off + 2) (by omega),
    Arena.byte_writeByte_other _ _ (a' := off) (by omega), Arena.byte_writeByte_self]
  exact word_of_bytes w

/-- Two arenas with the same four bytes have the same word. -/
theorem Arena.word_congr {p p' : Nat} {m m' : Arena} {off : Nat}
    (h : ∀ a, off ≤ a → a < off + 4 → Arena.byte p m a = Arena.byte p' m' a) :
    Arena.word p m off = Arena.word p' m' off := by
  unfold Arena.word
  rw [h off (by omega) (by omega), h (off + 1) (by omega) (by omega), h (off + 2) (by omega) (by omega),
    h (off + 3) (by omega) (by omega)]

/-- A word read after another, disjoint one was written. -/
theorem Arena.word_writeWord_other (p : Nat) (m : Arena) {off off' : Nat} (h : off' + 4 ≤ off ∨ off + 4 ≤ off')
    (w : Word) : Arena.word p (Arena.writeWord m off w) off' = Arena.word p m off' :=
  Arena.word_congr (fun _ _ _ => Arena.byte_writeWord_other p m (by omega) w)

/-! ### Consecutive words -/

/-- A byte outside the written words is as before. -/
theorem Arena.byte_writeWords_other (p : Nat) (ws : List Word) (m : Arena) {off a : Nat}
    (h : a < off ∨ off + 4 * ws.length ≤ a) : Arena.byte p (Arena.writeWords m off ws) a = Arena.byte p m a := by
  induction ws generalizing m off with
  | nil => rfl
  | cons w ws ih =>
    simp only [List.length_cons] at h
    rw [Arena.writeWords, ih _ (by omega), Arena.byte_writeWord_other _ _ (by omega)]

/-- A word outside the written words is as before. -/
theorem Arena.word_writeWords_other (p : Nat) (ws : List Word) (m : Arena) {off off' : Nat}
    (h : off' + 4 ≤ off ∨ off + 4 * ws.length ≤ off') :
    Arena.word p (Arena.writeWords m off ws) off' = Arena.word p m off' :=
  Arena.word_congr (fun _ _ _ => Arena.byte_writeWords_other p ws m (by omega))

/-- Each written word, read back. -/
theorem Arena.word_writeWords_self (p : Nat) (ws : List Word) (m : Arena) (off i : Nat) (d : Word) (h : i < ws.length) :
    Arena.word p (Arena.writeWords m off ws) (off + 4 * i) = ws.getD i d := by
  induction ws generalizing m off i with
  | nil => simp at h
  | cons w ws ih =>
    cases i with
    | zero => simp [Arena.writeWords, Arena.word_writeWords_other]
    | succ i =>
      have : off + 4 * (i + 1) = (off + 4) + 4 * i := by omega
      rw [Arena.writeWords, this, ih _ _ _ (by simpa using h)]
      simp

/-- Writing no word changes nothing. -/
@[simp] theorem Arena.writeWords_nil (m : Arena) (off : Nat) : Arena.writeWords m off [] = m := rfl

@[simp] theorem Arena.words_length (p : Nat) (m : Arena) (off n : Nat) : (Arena.words p m off n).length = n := by
  simp [Arena.words]

theorem Arena.words_getD (p : Nat) (m : Arena) (off n i : Nat) (d : Word) (h : i < n) :
    (Arena.words p m off n).getD i d = Arena.word p m (off + 4 * i) := by
  simp [Arena.words, List.getD_eq_getElem?_getD, h]

/-! ### The canonical form -/

theorem Arena.risingFrom_mono {lo lo' : Nat} (h : lo' ≤ lo) {m : Arena} (hm : Arena.risingFrom lo m = true) :
    Arena.risingFrom lo' m = true := by
  cases m with
  | nil => rfl
  | cons c m =>
    simp only [Arena.risingFrom, Bool.and_eq_true, decide_eq_true_eq] at *
    exact ⟨by omega, hm.2⟩

theorem Arena.risingFrom_insert {lo a : Nat} (b : Byte) (h : lo ≤ a) {m : Arena} (hm : Arena.risingFrom lo m = true) :
    Arena.risingFrom lo (Arena.insert a b m) = true := by
  induction m generalizing lo with
  | nil => simp [Arena.insert, Arena.risingFrom, h]
  | cons c m ih =>
    simp only [Arena.risingFrom, Bool.and_eq_true, decide_eq_true_eq] at hm
    simp only [Arena.insert]
    split
    · simp only [Arena.risingFrom, Bool.and_eq_true, decide_eq_true_eq]
      exact ⟨h, by omega, hm.2⟩
    · split
      · simp only [Arena.risingFrom, Bool.and_eq_true, decide_eq_true_eq]
        rename_i h2
        exact ⟨h, h2 ▸ hm.2⟩
      · simp only [Arena.risingFrom, Bool.and_eq_true, decide_eq_true_eq]
        exact ⟨hm.1, ih (by omega) hm.2⟩

theorem Arena.risingFrom_filter (f : Host.Cell → Bool) {lo : Nat} {m : Arena} (hm : Arena.risingFrom lo m = true) :
    Arena.risingFrom lo (m.filter f) = true := by
  induction m generalizing lo with
  | nil => rfl
  | cons c m ih =>
    simp only [Arena.risingFrom, Bool.and_eq_true, decide_eq_true_eq] at hm
    simp only [List.filter_cons]
    split
    · simp only [Arena.risingFrom, Bool.and_eq_true, decide_eq_true_eq]
      exact ⟨hm.1, ih hm.2⟩
    · exact Arena.risingFrom_mono (by omega) (ih hm.2)

theorem Arena.mem_insert {a : Nat} {b : Byte} {m : Arena} {c : Host.Cell} (h : c ∈ Arena.insert a b m) :
    c = (a, b) ∨ c ∈ m := by
  induction m with
  | nil => simpa [Arena.insert] using h
  | cons d m ih =>
    simp only [Arena.insert] at h
    split at h
    · simpa using h
    · split at h
      · rcases List.mem_cons.1 h with h | h
        · exact .inl h
        · exact .inr (List.mem_cons_of_mem _ h)
      · rcases List.mem_cons.1 h with h | h
        · exact .inr (h ▸ List.mem_cons_self)
        · exact (ih h).imp id (List.mem_cons_of_mem _)

/-- The canonical form, taken apart. -/
theorem Arena.wf_iff (m : Arena) :
    Arena.wf m = true ↔
      Arena.risingFrom 0 m = true ∧ ∀ c ∈ m, decoded c.1 = true ∧ Arena.unlisted c.1 ≠ some c.2 := by
  simp [Arena.wf]

/-- The arena that lists nothing is canonical. -/
theorem Arena.wf_nil : Arena.wf [] = true := rfl

theorem Arena.wf_filter (f : Host.Cell → Bool) {m : Arena} (h : Arena.wf m = true) : Arena.wf (m.filter f) = true := by
  rw [Arena.wf_iff] at *
  exact ⟨Arena.risingFrom_filter f h.1, fun c hc => h.2 c (List.mem_filter.1 hc).1⟩

/-- Writing a byte at a decoded offset keeps the canonical form. -/
theorem Arena.wf_writeByte {m : Arena} (h : Arena.wf m = true) {a : Nat} (ha : decoded a = true) (b : Byte) :
    Arena.wf (Arena.writeByte m a b) = true := by
  unfold Arena.writeByte
  split
  · exact Arena.wf_filter _ h
  · rename_i hb
    rw [Arena.wf_iff] at *
    refine ⟨Arena.risingFrom_insert b (Nat.zero_le a) h.1, fun c hc => ?_⟩
    rcases Arena.mem_insert hc with rfl | hc
    · exact ⟨ha, hb⟩
    · exact h.2 c hc

/-- Writing a word whose four bytes are decoded keeps the canonical form. -/
theorem Arena.wf_writeWord {m : Arena} (h : Arena.wf m = true) {off : Nat}
    (hd : ∀ a, off ≤ a → a < off + 4 → decoded a = true) (w : Word) : Arena.wf (Arena.writeWord m off w) = true :=
  Arena.wf_writeByte
    (Arena.wf_writeByte
      (Arena.wf_writeByte (Arena.wf_writeByte h (hd _ (by omega) (by omega)) _) (hd _ (by omega) (by omega)) _)
      (hd _ (by omega) (by omega)) _)
    (hd _ (by omega) (by omega)) _

/-- Writing words whose bytes are decoded keeps the canonical form. -/
theorem Arena.wf_writeWords (ws : List Word) {m : Arena} (h : Arena.wf m = true) {off : Nat}
    (hd : ∀ a, off ≤ a → a < off + 4 * ws.length → decoded a = true) :
    Arena.wf (Arena.writeWords m off ws) = true := by
  induction ws generalizing m off with
  | nil => exact h
  | cons w ws ih =>
    simp only [List.length_cons] at hd
    exact ih (Arena.wf_writeWord h (fun a h1 h2 => hd a h1 (by omega)) w) (fun a h1 h2 => hd a (by omega) (by omega))

/-- INIT's zeroing keeps the canonical form. -/
theorem Arena.wf_clearIo {m : Arena} (h : Arena.wf m = true) : Arena.wf (Arena.clearIo m) = true := Arena.wf_filter _ h

/-! ### INIT's zeroing (41_system.md R139) -/

theorem Arena.lookup_clearIo_low {a : Nat} (h : a < ioEnd) (m : Arena) : Arena.lookup (Arena.clearIo m) a = none := by
  induction m with
  | nil => rfl
  | cons c m ih =>
    by_cases hc : ioEnd ≤ c.1
    · have : c.1 ≠ a := by omega
      simpa [Arena.clearIo, hc, Arena.lookup, this] using ih
    · simpa [Arena.clearIo, hc] using ih

theorem Arena.lookup_clearIo_high {a : Nat} (h : ioEnd ≤ a) (m : Arena) :
    Arena.lookup (Arena.clearIo m) a = Arena.lookup m a := by
  induction m with
  | nil => rfl
  | cons c m ih =>
    by_cases hc : ioEnd ≤ c.1
    · simp only [Arena.clearIo, List.filter_cons, hc, decide_true, if_true, Arena.lookup] at *
      rw [ih]
    · have : c.1 ≠ a := by omega
      simp only [Arena.clearIo, List.filter_cons, hc, decide_false, Arena.lookup, this, if_false] at *
      simpa using ih

/-- After INIT's zeroing, a byte of IN_L to WORK is 0. -/
theorem Arena.byte_clearIo_low (p : Nat) {a : Nat} (h : a < ioEnd) (m : Arena) :
    Arena.byte p (Arena.clearIo m) a = 0#8 := by
  simp [Arena.byte, Arena.lookup_clearIo_low h, Arena.unlisted, h]

/-- INIT's zeroing leaves every byte from SRC on alone. -/
theorem Arena.byte_clearIo_high (p : Nat) {a : Nat} (h : ioEnd ≤ a) (m : Arena) :
    Arena.byte p (Arena.clearIo m) a = Arena.byte p m a := by
  simp [Arena.byte, Arena.lookup_clearIo_high h]

end Sys2Proof.Machine
end

