-- ==== Sys2Proof/Laws/Ops.lean ====
section
/-! SUPPORT. What each shared operation can do, said once: the checks a command starts with, the shapes of the buffer
primitives, the state's reads after its writes, and the drawing of NaN patterns. -/

namespace Sys2Proof.Machine

/-! ### Drawing the patterns of NaNs (40_numerics.md R107) -/

@[simp] theorem F32.settleList_length (n : Nat) (ws : List Word) : (F32.settleList n ws).length = ws.length := by
  induction ws generalizing n with
  | nil => rfl
  | cons w ws ih => simp [F32.settleList, ih]

@[simp] theorem C32.settleList_length (n : Nat) (zs : List C32) : (C32.settleList n zs).length = zs.length := by
  induction zs generalizing n with
  | nil => rfl
  | cons z zs ih => simp [C32.settleList, ih]

/-- The i-th stored value is the i-th computed value with draw index n + i. -/
theorem F32.settleList_getD (n : Nat) (ws : List Word) (i : Nat) (d : Word) (h : i < ws.length) :
    (F32.settleList n ws).getD i d = F32.settle (n + i) (ws.getD i d) := by
  induction ws generalizing n i with
  | nil => simp at h
  | cons w ws ih =>
    cases i with
    | zero => simp [F32.settleList]
    | succ i =>
      have : n + (i + 1) = n + 1 + i := by omega
      simpa [F32.settleList, this] using ih (n + 1) i (by simpa using h)

/-- A value that is no NaN is stored as it is. -/
theorem F32.settle_of_not_nan {w : Word} (h : F32.isNaN w = false) (n : Nat) : F32.settle n w = w := by
  simp [F32.settle, h]

@[simp] theorem tabulate_length {α : Type} (n : Nat) (f : Nat → α) : (tabulate n f).length = n := by simp [tabulate]

theorem tabulate_getD {α : Type} (n : Nat) (f : Nat → α) (i : Nat) (d : α) (h : i < n) :
    (tabulate n f).getD i d = f i := by
  simp [tabulate, List.getD_eq_getElem?_getD, h]

/-! ### The state's reads after its writes -/

@[simp] theorem State.readSpan_length (s : State) (sp : Span) : (s.readSpan sp).length = sp.n := by
  simp [State.readSpan]

theorem State.readSpan_getD (s : State) (sp : Span) (i : Nat) (d : Word) (h : i < sp.n) :
    (s.readSpan sp).getD i d = s.readWord (sp.off + 4 * i) := Arena.words_getD _ _ _ _ _ _ h

theorem State.readByte_writeWords_other (s : State) (ws : List Word) {off a : Nat}
    (h : a < off ∨ off + 4 * ws.length ≤ a) : (s.writeWords off ws).readByte a = s.readByte a :=
  Arena.byte_writeWords_other _ ws _ h

theorem State.readWord_writeWords_other (s : State) (ws : List Word) {off off' : Nat}
    (h : off' + 4 ≤ off ∨ off + 4 * ws.length ≤ off') : (s.writeWords off ws).readWord off' = s.readWord off' :=
  Arena.word_writeWords_other _ ws _ h

theorem State.readWord_writeWords_self (s : State) (ws : List Word) (off i : Nat) (d : Word) (h : i < ws.length) :
    (s.writeWords off ws).readWord (off + 4 * i) = ws.getD i d :=
  Arena.word_writeWords_self _ ws _ off i d h

theorem State.readByte_writeComputed_other (s : State) (ws : List Word) {off a : Nat}
    (h : a < off ∨ off + 4 * ws.length ≤ a) : (s.writeComputed off ws).readByte a = s.readByte a :=
  Arena.byte_writeWords_other _ _ _ (by simpa using h)

theorem State.readWord_writeComputed_self (s : State) (ws : List Word) (off i : Nat) (d : Word) (h : i < ws.length) :
    (s.writeComputed off ws).readWord (off + 4 * i) = F32.settle (s.nanDraws + i) (ws.getD i d) := by
  have := Arena.word_writeWords_self s.powerCycles (F32.settleList s.nanDraws ws) s.arena off i d (by simpa using h)
  rwa [F32.settleList_getD _ _ _ _ h] at this

/-- A word that keeps its four bytes is the same. -/
theorem State.readWord_congr {s t : State} {off : Nat}
    (h : ∀ a, off ≤ a → a < off + 4 → t.readByte a = s.readByte a) : t.readWord off = s.readWord off :=
  Arena.word_congr h

/-! ### Spans (20_memory.md R70) -/

/-- A span is valid exactly when it is aligned and inside one region. -/
theorem Span.valid_iff (sp : Span) :
    sp.valid = true ↔ sp.off % 4 = 0 ∧ ∃ r ∈ regions, r.base ≤ sp.off ∧ sp.stop ≤ r.stop := by
  simp [Span.valid, List.any_eq_true]

/-- Every byte of a valid span is decoded. -/
theorem Span.decoded_of_valid {sp : Span} (h : sp.valid = true) {a : Nat} (h1 : sp.off ≤ a) (h2 : a < sp.stop) :
    decoded a = true := by
  obtain ⟨-, r, hr, hb, hs⟩ := (Span.valid_iff sp).1 h
  simp only [decoded, List.any_eq_true, Bool.and_eq_true, decide_eq_true_eq]
  exact ⟨r, hr, by omega, by omega⟩

/-! ### The checks a command starts with -/

section
variable {s t : State} {run : Result} {ok : Bool} {code : ResultCode} {sp : Span}

/-- The readiness check (41_system.md R136): what it can do. -/
theorem whenReady_cases (h : whenReady s run = .next t) :
    (s.ready = false ∧ t = raiseRC .notInit s) ∨ (s.ready = true ∧ run = .next t) := by
  unfold whenReady at h
  split at h
  · exact .inr ⟨‹_›, h⟩
  · rename_i hn
    injection h with h
    exact .inl ⟨eq_false_of_ne_true hn, h.symm⟩

@[simp] theorem whenReady_true (h : s.ready = true) : whenReady s run = run := by simp [whenReady, h]

@[simp] theorem whenReady_false (h : s.ready = false) : whenReady s run = .next (raiseRC .notInit s) := by
  simp [whenReady, h]

/-- An argument check (60_exceptions.md R242): what it can do. -/
theorem require_cases (h : require ok code s run = .next t) :
    (ok = false ∧ t = raiseRC code s) ∨ (ok = true ∧ run = .next t) := by
  unfold require at h
  split at h
  · exact .inr ⟨‹_›, h⟩
  · rename_i hn
    injection h with h
    exact .inl ⟨eq_false_of_ne_true hn, h.symm⟩

@[simp] theorem require_true (h : ok = true) : require ok code s run = run := by simp [require, h]

@[simp] theorem require_false (h : ok = false) : require ok code s run = .next (raiseRC code s) := by
  simp [require, h]

/-- The access check of a process command: what it can do. -/
theorem requireDecoded_cases (h : requireDecoded sp run = .next t) : sp.valid = true ∧ run = .next t := by
  unfold requireDecoded at h
  split at h
  · exact ⟨‹_›, h⟩
  · cases h

@[simp] theorem requireDecoded_true (h : sp.valid = true) : requireDecoded sp run = run := by simp [requireDecoded, h]

end

/-! ### The shapes of the buffer primitives (42_buffer_primitives.md R151, R152) -/

section
variable {s t : State}

/-- What a computed primitive can do: two failures, or its one write. -/
theorem computeSpan_cases {f : List Word → List Word → List Word} (h : computeSpan s f = .next t) :
    (s.ready = false ∧ t = raiseRC .notInit s) ∨
    (s.ready = true ∧ spanPairOk (dstSpan s) (srcSpan s) = false ∧ t = raiseRC .badSpan s) ∨
    (s.ready = true ∧ spanPairOk (dstSpan s) (srcSpan s) = true ∧
      t = finish 0#32 0#32
        (s.writeComputed (dstSpan s).off (f (s.readSpan (srcSpan s)) (s.readSpan (dstSpan s))))) := by
  rcases whenReady_cases h with h | ⟨h1, h⟩
  · exact .inl h
  · rcases require_cases h with ⟨h2, h⟩ | ⟨h2, h⟩
    · exact .inr (.inl ⟨h1, h2, h⟩)
    · injection h with h
      exact .inr (.inr ⟨h1, h2, h.symm⟩)

/-- What a moving primitive can do: two failures, or its one write. -/
theorem moveSpan_cases {f : List Word → List Word} (h : moveSpan s f = .next t) :
    (s.ready = false ∧ t = raiseRC .notInit s) ∨
    (s.ready = true ∧ spanPairOk (dstSpan s) (srcSpan s) = false ∧ t = raiseRC .badSpan s) ∨
    (s.ready = true ∧ spanPairOk (dstSpan s) (srcSpan s) = true ∧
      t = finish 0#32 0#32 (s.writeWords (dstSpan s).off (f (s.readSpan (srcSpan s))))) := by
  rcases whenReady_cases h with h | ⟨h1, h⟩
  · exact .inl h
  · rcases require_cases h with ⟨h2, h⟩ | ⟨h2, h⟩
    · exact .inr (.inl ⟨h1, h2, h⟩)
    · injection h with h
      exact .inr (.inr ⟨h1, h2, h.symm⟩)

/-- What a view query can do: two failures, or the view. -/
theorem bufferView_cases {r0 r1 : Region} (h : bufferView r0 r1 s = .next t) :
    (s.ready = false ∧ t = raiseRC .notInit s) ∨
    (s.ready = true ∧ 1 < s.arg0.toNat ∧ t = raiseRC .badChannel s) ∨
    (s.ready = true ∧ s.arg0.toNat ≤ 1 ∧
      t = finish (BitVec.ofNat 32 (if s.arg0.toNat = 0 then r0.base else r1.base)) (BitVec.ofNat 32 s.blockSize) s) := by
  rcases whenReady_cases h with h | ⟨h1, h⟩
  · exact .inl h
  · rcases require_cases h with ⟨h2, h⟩ | ⟨h2, h⟩
    · exact .inr (.inl ⟨h1, Nat.lt_of_succ_le (of_decide_eq_false h2 |> Nat.le_of_not_lt), h⟩)
    · injection h with h
      exact .inr (.inr ⟨h1, Nat.le_of_lt_succ (of_decide_eq_true h2), h.symm⟩)

/-- The pair of spans of a primitive is accepted exactly as R151 and R152 say. -/
theorem spanPairOk_iff (d r : Span) :
    spanPairOk d r = true ↔ d.valid = true ∧ r.valid = true ∧ (d.off = r.off ∨ d.overlaps r = false) := by
  simp [spanPairOk, and_assoc]

end

end Sys2Proof.Machine
end

