-- ==== Sys2Proof/Laws/Engines.lean ====
section
/-! SUPPORT. The engines keep their shapes: the lengths of every transform and buffer, what a block of samples does
to each engine's invariant, and blocks taken apart. -/

namespace Sys2Proof.Machine

/-! ### Transforms (40_numerics.md R118, R120) -/

theorem butterflies_length (n : Nat) (dir : FftDir) (stride half : Nat) {lo hi : List C32} (h1 : lo.length = half)
    (h2 : hi.length = half) : (butterflies n dir stride lo hi).length = 2 * half := by
  simp [butterflies, h1, h2]
  omega

theorem fftStage_length (n : Nat) (dir : FftDir) (half stride count : Nat) {a : List C32}
    (h : a.length = count * (2 * half)) : (fftStage n dir half stride count a).length = count * (2 * half) := by
  induction count generalizing a with
  | zero => simp [fftStage]
  | succ count ih =>
    have hc : (count + 1) * (2 * half) = count * (2 * half) + 2 * half := Nat.succ_mul _ _
    have h1 : (a.take half).length = half := by simp; omega
    have h2 : ((a.drop half).take half).length = half := by simp; omega
    have h3 : (a.drop (2 * half)).length = count * (2 * half) := by simp; omega
    simp [fftStage, butterflies_length n dir stride half h1 h2, ih h3]
    omega

theorem fftStages_length (m : Nat) (dir : FftDir) (left s : Nat) {a : List C32} (hs : 1 ≤ s) (hm : left + s = m + 1)
    (h : a.length = 2 ^ m) : (fftStages (2 ^ m) dir left s a).length = 2 ^ m := by
  induction left generalizing s a with
  | zero => exact h
  | succ left ih =>
    have hd : 2 ^ m / 2 ^ s = 2 ^ (m - s) := Nat.pow_div (by omega) (by omega)
    have he : 2 ^ (m - s) * (2 * 2 ^ (s - 1)) = 2 ^ m := by
      rw [← Nat.pow_succ', ← Nat.pow_add]
      congr 1
      omega
    have hl : (fftStage (2 ^ m) dir (2 ^ (s - 1)) (2 ^ m / 2 ^ s) (2 ^ m / 2 ^ s) a).length = 2 ^ m := by
      rw [fftStage_length _ _ _ _ _ (by rw [hd, he]; exact h), hd, he]
    exact ih (s + 1) (by omega) (by omega) hl

theorem refFft_length (m : Nat) (dir : FftDir) (x : List C32) : (refFft (2 ^ m) dir x).length = 2 ^ m := by
  simp only [refFft, Nat.log2_two_pow]
  exact fftStages_length m dir m 1 (by omega) (by omega) (by simp)

/-- A forward transform of NC values has NC values, in either configuration. -/
@[simp] theorem fft_nc_length (cfg : Config.Numerics) (x : List C32) : (fft cfg Config.nc x).length = Config.nc := by
  cases cfg
  · exact refFft_length 8 _ x
  · simp [fft]

/-- A forward transform of NS values has NS values, in either configuration. -/
@[simp] theorem fft_ns_length (cfg : Config.Numerics) (x : List C32) : (fft cfg Config.ns x).length = Config.ns := by
  cases cfg
  · exact refFft_length 11 _ x
  · simp [fft]

/-- An inverse transform of NC values has NC values, in either configuration. -/
@[simp] theorem ifft_nc_length (cfg : Config.Numerics) (x : List C32) : (ifft cfg Config.nc x).length = Config.nc := by
  cases cfg
  · exact refFft_length 8 _ x
  · simp [ifft]

/-- An inverse transform of NS values has NS values, in either configuration. -/
@[simp] theorem ifft_ns_length (cfg : Config.Numerics) (x : List C32) : (ifft cfg Config.ns x).length = Config.ns := by
  cases cfg
  · exact refFft_length 11 _ x
  · simp [ifft]

/-! ### The convolution engine (43_convolution.md) -/

theorem clearedConvChan_inv (live : Nat) : (clearedConvChan live).Inv live where
  fdl := ⟨by simp [clearedConvChan], by
    intro z hz
    simp only [clearedConvChan, List.mem_replicate] at hz
    simp [hz.2]⟩
  input := by simp [clearedConvChan]
  tail := by simp [clearedConvChan]

/-- Clearing the history keeps the engine's invariant and needs only the IR's part of it (R178). -/
theorem convClearHistory_inv {c : Conv} (hp : c.parts ≤ Config.pMax) (hs : SpectraInv c.parts c.irSpec) :
    (convClearHistory c).Inv where
  parts := hp
  irSpec := hs
  left := clearedConvChan_inv _
  right := clearedConvChan_inv _
  fill := by simp [convClearHistory, Config.hc]
  pos := by simp [convClearHistory]

theorem irSpectra_inv (cfg : Config.Numerics) (m : List Word) (d parts : Nat) :
    SpectraInv parts (irSpectra cfg m d parts) where
  count := by simp [irSpectra]
  bins := by
    intro z hz
    simp only [irSpectra, tabulate, List.mem_map] at hz
    obtain ⟨p, -, rfl⟩ := hz
    simp [storedSpectrum]

theorem irPartitions_le (len ch : Nat) : irPartitions len ch ≤ Config.pMax := Nat.min_le_right _ _

theorem convPush_inv {parts : Nat} {ch : ConvChan} (h : ch.Inv parts) (fill : Nat) (x : Word) :
    (convPush fill x ch).Inv parts where
  fdl := h.fdl
  input := by simp [convPush, h.input]
  tail := h.tail

theorem convSubblock_inv {c : Conv} {ch : ConvChan} (h : ch.Inv c.parts) (cfg : Config.Numerics) (d : Nat) :
    (convSubblock cfg c ch d).Inv c.parts where
  fdl := ⟨by simp [convSubblock, h.fdl.count], by
    intro z hz
    simp only [convSubblock] at hz
    rcases List.mem_or_eq_of_mem_set hz with hz | rfl
    · exact h.fdl.bins z hz
    · simp [storedSpectrum]⟩
  input := h.input
  tail := by simp [convSubblock, overlapTail]

/-- One sample keeps the engine's invariant while an IR is loaded (R179). -/
theorem convSample_inv {c : Conv} (h : c.Inv) (hp : 0 < c.parts) (cfg : Config.Numerics) (xl xr : Word) (d : Nat) :
    (convSample cfg c xl xr d).1.Inv ∧ (convSample cfg c xl xr d).1.parts = c.parts := by
  have hl := convPush_inv h.left c.fill xl
  have hr := convPush_inv h.right c.fill xr
  simp only [convSample, convEndSample]
  split
  · refine ⟨⟨h.parts, h.irSpec, convSubblock_inv hl _ _, convSubblock_inv hr _ _, by simp [Config.hc], ?_⟩, rfl⟩
    have := Nat.mod_lt (c.pos + 1) hp
    simp only
    omega
  · have := h.fill
    exact ⟨⟨h.parts, h.irSpec, hl, hr, by simp only at *; omega, h.pos⟩, rfl⟩

/-- A block keeps the engine's invariant while an IR is loaded (R179). -/
theorem convBlock_inv (cfg : Config.Numerics) (dry wet : Word) (xs : List (Word × Word)) {c : Conv} (h : c.Inv)
    (hp : 0 < c.parts) (d : Nat) :
    (convBlock cfg dry wet xs c d).conv.Inv ∧ (convBlock cfg dry wet xs c d).conv.parts = c.parts := by
  induction xs generalizing c d with
  | nil => exact ⟨h, rfl⟩
  | cons x xs ih =>
    obtain ⟨h1, h2⟩ := convSample_inv h hp cfg x.1 x.2 (d + 2)
    obtain ⟨h3, h4⟩ := ih h1 (h2 ▸ hp) (convSample cfg c x.1 x.2 (d + 2)).2
    exact ⟨h3, h4.trans h2⟩

/-- A block gives one output word per input sample and channel. -/
@[simp] theorem convBlock_length (cfg : Config.Numerics) (dry wet : Word) (xs : List (Word × Word)) (c : Conv) (d : Nat) :
    (convBlock cfg dry wet xs c d).outL.length = xs.length ∧
    (convBlock cfg dry wet xs c d).outR.length = xs.length := by
  induction xs generalizing c d with
  | nil => exact ⟨rfl, rfl⟩
  | cons x xs ih =>
    have := ih (convSample cfg c x.1 x.2 (d + 2)).1 (convSample cfg c x.1 x.2 (d + 2)).2
    simp [convBlock, this.1, this.2]

/-! ### The granular engine (44_granular.md) -/

@[simp] theorem silenced_length (gs : List Grain) : (silenced gs).length = gs.length := by simp [silenced]

/-- No grain of a silenced pool is active. -/
theorem silenced_inactive {gs : List Grain} {x : Grain} (h : x ∈ silenced gs) : x.active = false := by
  simp only [silenced, List.mem_map] at h
  obtain ⟨g, -, rfl⟩ := h
  rfl

/-- One sample's accumulator and spawn touch only the pool, the accumulator and the generator (R199, R201). -/
theorem granTick_frame (cfg : Config.Numerics) (p : GranParams) (g : Gran) (d : Nat) :
    (granTick cfg p g d).grains.length = g.grains.length ∧
    (granTick cfg p g d).srcFrames = g.srcFrames ∧ (granTick cfg p g d).srcChannels = g.srcChannels := by
  simp only [granTick, granSpawn]
  split
  · split <;> simp
  · simp

@[simp] theorem granMix_length (s : State) (g : Gran) (xs : List Grain) (l r : Word) (d : Nat) :
    (granMix s g xs l r d).grains.length = xs.length := by
  induction xs generalizing l r d with
  | nil => rfl
  | cons x xs ih =>
    simp only [granMix]
    split <;> simp [ih]

/-- Rendering leaves every grain inactive, or short of its ends (R202). -/
theorem granMix_live (s : State) (g : Gran) (xs : List Grain) (l r : Word) (d : Nat) :
    ∀ x ∈ (granMix s g xs l r d).grains, x.Live := by
  induction xs generalizing l r d with
  | nil => simp [granMix]
  | cons x xs ih =>
    simp only [granMix]
    split
    · intro y hy
      rcases List.mem_cons.1 hy with rfl | hy
      · intro ha
        simpa [grainAdvance, Bool.or_eq_false_iff] using ha
      · exact ih _ _ _ y hy
    · rename_i hx
      intro y hy
      rcases List.mem_cons.1 hy with rfl | hy
      · exact fun ha => absurd ha hx
      · exact ih _ _ _ y hy

/-- A block keeps the pool's size and the source record, and gives one word per sample and channel (R198). -/
theorem granBlock_frame (s : State) (p : GranParams) (n : Nat) (g : Gran) (d : Nat) :
    (granBlock s p n g d).gran.grains.length = g.grains.length ∧
    (granBlock s p n g d).gran.srcFrames = g.srcFrames ∧
    (granBlock s p n g d).gran.srcChannels = g.srcChannels ∧
    (granBlock s p n g d).outL.length = n ∧ (granBlock s p n g d).outR.length = n := by
  induction n generalizing g d with
  | zero => exact ⟨rfl, rfl, rfl, rfl, rfl⟩
  | succ n ih =>
    obtain ⟨t1, t2, t3⟩ := granTick_frame s.numerics p g d
    obtain ⟨h1, h2, h3, h4, h5⟩ := ih
      { granTick s.numerics p g d with
        grains := (granMix s (granTick s.numerics p g d) (granTick s.numerics p g d).grains F32.zero F32.zero
          (d + 1)).grains }
      ((granMix s (granTick s.numerics p g d) (granTick s.numerics p g d).grains F32.zero F32.zero (d + 1)).draws + 2)
    simp only [granMix_length] at h1
    exact ⟨h1.trans t1, h2.trans t2, h3.trans t3, by simp [granBlock, h4], by simp [granBlock, h5]⟩

/-- After a block every grain is inactive or short of its ends (R202). -/
theorem granBlock_live (s : State) (p : GranParams) (n : Nat) {g : Gran} (h : g.Live) (d : Nat) :
    (granBlock s p n g d).gran.Live := by
  induction n generalizing g d with
  | zero => exact h
  | succ n ih => exact ih (fun x hx => granMix_live s _ _ _ _ _ x hx) _

/-! ### The spectral engine (45_spectral.md) -/

theorem SpecChan.zero_inv : SpecChan.zero.Inv where
  inBuf := by simp [SpecChan.zero]
  outRing := by simp [SpecChan.zero]
  upper := by
    intro j _
    simp only [SpecChan.zero, List.getD_eq_getElem?_getD, List.getElem?_replicate]
    split <;> rfl
  prevPhase := by simp [SpecChan.zero]
  synthPhase := by simp [SpecChan.zero]
  frozenMag := by simp [SpecChan.zero]
  frozenPhase := by simp [SpecChan.zero]

/-- The cleared engine (R216). -/
theorem specClear_inv : specClear.Inv where
  left := SpecChan.zero_inv
  right := SpecChan.zero_inv
  fill := by simp [specClear, Spec.zero, Config.hs]
  frozen := rfl

theorem specPush_inv {ch : SpecChan} (h : ch.Inv) (fill : Nat) (x : Word) : (specPush fill x ch).Inv :=
  { h with inBuf := by simp [specPush, h.inBuf] }

theorem toPolar_length (cfg : Config.Numerics) (x : List C32) (d : Nat) :
    (toPolar cfg x d).mag.length = Config.ks ∧ (toPolar cfg x d).phase.length = Config.ks := by
  simp [toPolar]

theorem freezeStep_shape (fa : Word) {ch : SpecChan} (h : ch.Inv) {m : Polar} (hm : m.mag.length = Config.ks)
    (hp : m.phase.length = Config.ks) (d : Nat) :
    (freezeStep fa ch m d).1.Inv ∧ (freezeStep fa ch m d).2.mag.length = Config.ks ∧
    (freezeStep fa ch m d).2.phase.length = Config.ks := by
  simp only [freezeStep]
  split
  · refine ⟨?_, by simp [frozenBlend], by simp [frozenBlend]⟩
    simp only [captured]
    split
    · exact h
    · exact { h with frozenMag := hm, frozenPhase := hp }
  · exact ⟨h, hm, hp⟩

theorem shiftStep_shape (p : SpecParams) {m : Polar} (hm : m.mag.length = Config.ks) (hp : m.phase.length = Config.ks)
    (d : Nat) : (shiftStep p m d).mag.length = Config.ks ∧ (shiftStep p m d).phase.length = Config.ks := by
  simp only [shiftStep]
  split
  · simp
  · exact ⟨hm, hp⟩

/-- The overlap-add keeps the ring's length, and its upper half +0.0 (R225). -/
theorem overlapRing_shape {ring : List Word} (h : ∀ j, Config.ns ≤ j → ring.getD j F32.zero = F32.zero) (o : List Word)
    (d : Nat) :
    (overlapRing ring o d).length = Config.outRing ∧
    ∀ j, Config.ns ≤ j → (overlapRing ring o d).getD j F32.zero = F32.zero := by
  refine ⟨by simp [overlapRing, Config.outRing, Config.ns], fun j hj => ?_⟩
  rw [overlapRing, List.getD_append_right _ _ _ _ (by simpa using hj)]
  simp only [F32.settleList_length, tabulate_length]
  by_cases hlt : j - Config.ns < Config.outRing - Config.ns
  · rw [tabulate_getD _ _ _ _ hlt]
    split
    · exact h _ (by omega)
    · rfl
  · exact List.getD_eq_default _ _ (by simpa using hlt)

/-- One frame keeps a channel's invariant (R219 to R225). -/
theorem specFrame_inv {ch : SpecChan} (h : ch.Inv) (cfg : Config.Numerics) (p : SpecParams) (d : Nat) :
    (specFrame cfg p ch d).Inv := by
  have hpol := toPolar_length cfg (analysisSpectrum cfg ch.inBuf d) (d + 3 * Config.ns)
  have hfr := freezeStep_shape p.freeze h hpol.1 hpol.2 (d + 3 * Config.ns + 2 * Config.ks)
  have hsh := shiftStep_shape p hfr.2.1 hfr.2.2 (d + 3 * Config.ns + 2 * Config.ks + 2 * Config.ks)
  have hov := overlapRing_shape h.upper
  exact
    { inBuf := by simp [specFrame, shiftedInput]
      outRing := (hov _ _).1
      upper := (hov _ _).2
      prevPhase := hsh.2
      synthPhase := by simp [specFrame, vocoded]
      frozenMag := by
        simp only [specFrame]
        exact hfr.1.frozenMag
      frozenPhase := by
        simp only [specFrame]
        exact hfr.1.frozenPhase }

/-- A frame's freeze flag: set when the freeze amount is above 0, else kept (R220, R222). -/
theorem specFrame_frozen (cfg : Config.Numerics) (p : SpecParams) (ch : SpecChan) (d : Nat) :
    (specFrame cfg p ch d).frozen = (ch.frozen || F32.lt F32.zero p.freeze) := by
  simp only [specFrame, freezeStep]
  split
  · simp only [captured]
    split <;> simp_all
  · simp_all

/-- One sample keeps the engine's invariant (R217). -/
theorem specEndSample_inv {sp : Spec} (h : sp.Inv) (cfg : Config.Numerics) (p : SpecParams) (d : Nat) :
    (specEndSample cfg p sp d).1.Inv := by
  simp only [specEndSample]
  split
  · exact
      { left := specFrame_inv h.left _ _ _
        right := specFrame_inv h.right _ _ _
        fill := by simp [Config.hs]
        frozen := by simp only [specFrame_frozen, h.frozen] }
  · have := h.fill
    exact { h with fill := by simp only at *; omega }

/-- A block keeps the engine's invariant (R217). -/
theorem specBlock_inv (cfg : Config.Numerics) (p : SpecParams) (xs : List (Word × Word)) {sp : Spec} (h : sp.Inv)
    (d : Nat) : (specBlock cfg p xs sp d).spec.Inv := by
  induction xs generalizing sp d with
  | nil => exact h
  | cons x xs ih =>
    refine ih (specEndSample_inv ?_ cfg p d) _
    exact { h with left := specPush_inv h.left _ _, right := specPush_inv h.right _ _ }

/-- A block gives one output word per input sample and channel. -/
@[simp] theorem specBlock_length (cfg : Config.Numerics) (p : SpecParams) (xs : List (Word × Word)) (sp : Spec) (d : Nat) :
    (specBlock cfg p xs sp d).outL.length = xs.length ∧ (specBlock cfg p xs sp d).outR.length = xs.length := by
  induction xs generalizing sp d with
  | nil => exact ⟨rfl, rfl⟩
  | cons x xs ih => simp [specBlock, ih]

/-- Clearing the freeze flags keeps the engine's invariant (R215). -/
theorem unfrozen_inv {sp : Spec} (h : sp.Inv) (fa : Word) : (unfrozen fa sp).Inv := by
  simp only [unfrozen]
  split
  · exact { left := { h.left with }, right := { h.right with }, fill := h.fill, frozen := rfl }
  · exact h

end Sys2Proof.Machine
end

