-- ==== Sys2Proof/Laws/Process.lean ====
section
/-! SUPPORT. What the process commands do to the arena: the output blocks, read back, and every other byte left alone
(20_memory.md R64), and when their accesses exist. -/

namespace Sys2Proof.Machine

/-- Every offset of a region is decoded. -/
theorem decoded_of_region {r : Region} (hr : r ∈ regions) {a : Nat} (h1 : r.base ≤ a) (h2 : a < r.stop) :
    decoded a = true := by
  simp only [decoded, List.any_eq_true, Bool.and_eq_true, decide_eq_true_eq]
  exact ⟨r, hr, h1, h2⟩

/-- A word at an aligned decoded offset has its four bytes decoded. -/
theorem decoded_word {off : Nat} (h : decoded off = true) (ha : off % 4 = 0) {a : Nat} (h1 : off ≤ a)
    (h2 : a < off + 4) : decoded a = true := by
  simp only [decoded, List.any_eq_true, Bool.and_eq_true, decide_eq_true_eq] at *
  obtain ⟨r, hr, hb, hs⟩ := h
  refine ⟨r, hr, by omega, ?_⟩
  have : r.stop % 4 = 0 := by
    simp only [regions, List.mem_cons, List.not_mem_nil, or_false] at hr
    rcases hr with rfl | rfl | rfl | rfl | rfl | rfl | rfl <;> decide
  omega

/-- The block of OUT_L is accessible exactly when the block size is at most the region's 1024 words. -/
theorem block_valid_iff (s : State) : (s.block regionOutL).valid = true ↔ s.blockSize ≤ 1024 := by
  rw [Span.valid_iff]
  constructor
  · rintro ⟨-, r, hr, h1, h2⟩
    simp only [regions, List.mem_cons, List.not_mem_nil, or_false] at hr
    rcases hr with rfl | rfl | rfl | rfl | rfl | rfl | rfl <;>
      simp only [State.block, Span.stop, Region.stop, regionInL, regionInR, regionOutL, regionOutR, regionWork,
        regionSrc, regionIr] at h1 h2 <;> omega
  · intro h
    exact ⟨show 0x2000 % 4 = 0 by decide, regionOutL, by simp [regions], Nat.le_refl _, by
      simp only [State.block, Span.stop, Region.stop, regionOutL]; omega⟩

/-- The recorded source is accessible exactly when it fits the SRC region. -/
theorem sourceSpan_valid_iff (s : State) :
    s.sourceSpan.valid = true ↔ s.gran.srcFrames * s.gran.srcChannels ≤ Config.srcCapWords := by
  rw [Span.valid_iff]
  constructor
  · rintro ⟨-, r, hr, h1, h2⟩
    simp only [regions, List.mem_cons, List.not_mem_nil, or_false] at hr
    rcases hr with rfl | rfl | rfl | rfl | rfl | rfl | rfl <;>
      simp only [State.sourceSpan, Span.stop, Region.stop, regionInL, regionInR, regionOutL, regionOutR, regionWork,
        regionSrc, regionIr] at h1 h2 <;> omega
  · intro h
    exact ⟨show 0x8000 % 4 = 0 by decide, regionSrc, by simp [regions], Nat.le_refl _, by
      simp only [State.sourceSpan, Span.stop, Region.stop, regionSrc]; omega⟩

section
variable (s : State) (outL outR : List Word)

/-- A byte outside the two output blocks is as before. -/
theorem readByte_writeOutputs_other {a : Nat}
    (hl : a < regionOutL.base ∨ regionOutL.base + 4 * outL.length ≤ a)
    (hr : a < regionOutR.base ∨ regionOutR.base + 4 * outR.length ≤ a) :
    (writeOutputs s outL outR).readByte a = s.readByte a :=
  (State.readByte_writeWords_other _ outR hr).trans (State.readByte_writeWords_other s outL hl)

/-- Sample i of the left output block, read back. -/
theorem readWord_writeOutputs_left (i : Nat) (d : Word) (h : i < outL.length) (hl : outL.length ≤ 1024) :
    (writeOutputs s outL outR).readWord (regionOutL.base + 4 * i) = outL.getD i d := by
  rw [writeOutputs, State.readWord_writeWords_other _ _ (by simp only [regionOutL, regionOutR]; omega),
    State.readWord_writeWords_self _ _ _ _ d h]

/-- Sample i of the right output block, read back. -/
theorem readWord_writeOutputs_right (i : Nat) (d : Word) (h : i < outR.length) :
    (writeOutputs s outL outR).readWord (regionOutR.base + 4 * i) = outR.getD i d :=
  State.readWord_writeWords_self _ outR _ _ d h

/-- Writing two output blocks of at most 1024 words keeps the arena's canonical form. -/
theorem wf_writeOutputs (h : Arena.wf s.arena = true) (hl : outL.length ≤ 1024) (hr : outR.length ≤ 1024) :
    Arena.wf (writeOutputs s outL outR).arena = true :=
  Arena.wf_writeWords _
    (Arena.wf_writeWords _ h (fun a h1 h2 =>
      decoded_of_region (r := regionOutL) (by simp [regions]) h1 (by simp only [Region.stop, regionOutL] at *; omega)))
    (fun a h1 h2 =>
      decoded_of_region (r := regionOutR) (by simp [regions]) h1 (by simp only [Region.stop, regionOutR] at *; omega))

/-- The output blocks are all of the state that `writeOutputs` writes. -/
theorem writeOutputs_eq : writeOutputs s outL outR = { s with arena := (writeOutputs s outL outR).arena } := rfl

end

@[simp] theorem inputBlock_length (s : State) : (inputBlock s).length = s.blockSize := by simp [inputBlock, State.block]

/-- Sample i of the input block is the pair of words at IN_L + 4i and IN_R + 4i. -/
theorem inputBlock_getElem? (s : State) (i : Nat) (h : i < s.blockSize) :
    (inputBlock s)[i]? = some (s.readWord (regionInL.base + 4 * i), s.readWord (regionInR.base + 4 * i)) := by
  simp [inputBlock, State.block, State.readSpan, Arena.words, State.readWord, h]

end Sys2Proof.Machine
end

