-- ==== Sys2Proof/Laws/Exec.lean ====
section
/-! SUPPORT. What each command can do, said once per command: if it answers a next state, then it failed with one of
its codes or it is the state its rule gives. -/

namespace Sys2Proof.Machine

/-! ### The arms of `exec` -/

section
variable (s : State)

theorem exec_nop : exec .nop s = execNop s := rfl
theorem exec_init : exec .init s = execInit s := rfl
theorem exec_cleanup : exec .cleanup s = execCleanup s := rfl
theorem exec_getInputBuffer : exec .getInputBuffer s = execGetInputBuffer s := rfl
theorem exec_getOutputBuffer : exec .getOutputBuffer s = execGetOutputBuffer s := rfl
theorem exec_bufScale : exec .bufScale s = execBufScale s := rfl
theorem exec_bufAdd : exec .bufAdd s = execBufAdd s := rfl
theorem exec_bufMix : exec .bufMix s = execBufMix s := rfl
theorem exec_bufCopy : exec .bufCopy s = execBufCopy s := rfl
theorem exec_bufClear : exec .bufClear s = execBufClear s := rfl
theorem exec_bufInterleave : exec .bufInterleave s = execBufInterleave s := rfl
theorem exec_bufDeinterleave : exec .bufDeinterleave s = execBufDeinterleave s := rfl
theorem exec_bufGainRamp : exec .bufGainRamp s = execBufGainRamp s := rfl
theorem exec_bufSoftClip : exec .bufSoftClip s = execBufSoftClip s := rfl
theorem exec_bufHardClip : exec .bufHardClip s = execBufHardClip s := rfl
theorem exec_bufDcRemove : exec .bufDcRemove s = execBufDcRemove s := rfl
theorem exec_bufFindPeak : exec .bufFindPeak s = execBufFindPeak s := rfl
theorem exec_envLookup : exec .envLookup s = execEnvLookup s := rfl
theorem exec_convLoadIr : exec .convLoadIr s = execConvLoadIr s := rfl
theorem exec_convProcess : exec .convProcess s = execConvProcess s := rfl
theorem exec_convReset : exec .convReset s = execConvReset s := rfl
theorem exec_granLoadSource : exec .granLoadSource s = execGranLoadSource s := rfl
theorem exec_granProcess : exec .granProcess s = execGranProcess s := rfl
theorem exec_granReset : exec .granReset s = execGranReset s := rfl
theorem exec_specProcess : exec .specProcess s = execSpecProcess s := rfl
theorem exec_specReset : exec .specReset s = execSpecReset s := rfl

end

/-! ### What each command can do -/

section
variable {s t : State}

/-- A failing command: the code is not OK and the rest is `raiseRC`'s (60_exceptions.md R244). -/
def FailedWith (s t : State) (codes : List ResultCode) : Prop := ∃ c ∈ codes, t = raiseRC c s

/-- Not ready, every command but NOP, INIT and CLEANUP fails with ERR_NOT_INIT (41_system.md R136). -/
theorem exec_notReady {i : Instr} (h1 : i ≠ .nop) (h2 : i ≠ .init) (h3 : i ≠ .cleanup) (h : s.ready = false) :
    exec i s = .next (raiseRC .notInit s) := by
  cases i <;> first | contradiction | exact whenReady_false h

theorem execInit_cases (h : execInit s = .next t) :
    FailedWith s t [.badRate, .badBlock] ∨
    (rateOk s.arg0 = true ∧ blockOk s.arg1 = true ∧ t = finish 0#32 0#32 (initialised s.arg0 s.arg1 s)) := by
  rcases require_cases h with ⟨-, h⟩ | ⟨h1, h⟩
  · exact .inl ⟨_, by simp, h⟩
  · rcases require_cases h with ⟨-, h⟩ | ⟨h2, h⟩
    · exact .inl ⟨_, by simp, h⟩
    · injection h with h
      exact .inr ⟨h1, h2, h.symm⟩

theorem bufferView_done (r0 r1 : Region) (h : bufferView r0 r1 s = .next t) :
    FailedWith s t [.notInit, .badChannel] ∨ ∃ a b, t = finish a b s := by
  rcases bufferView_cases h with h | h | h
  · exact .inl ⟨_, by simp, h.2⟩
  · exact .inl ⟨_, by simp, h.2.2⟩
  · exact .inr ⟨_, _, h.2.2⟩

theorem computeSpan_done {f : List Word → List Word → List Word} (h : computeSpan s f = .next t) :
    FailedWith s t [.notInit, .badSpan] ∨
    (spanPairOk (dstSpan s) (srcSpan s) = true ∧
      t = finish 0#32 0#32
        (s.writeComputed (dstSpan s).off (f (s.readSpan (srcSpan s)) (s.readSpan (dstSpan s))))) := by
  rcases computeSpan_cases h with h | h | h
  · exact .inl ⟨_, by simp, h.2⟩
  · exact .inl ⟨_, by simp, h.2.2⟩
  · exact .inr h.2

theorem moveSpan_done {f : List Word → List Word} (h : moveSpan s f = .next t) :
    FailedWith s t [.notInit, .badSpan] ∨
    (spanPairOk (dstSpan s) (srcSpan s) = true ∧
      t = finish 0#32 0#32 (s.writeWords (dstSpan s).off (f (s.readSpan (srcSpan s))))) := by
  rcases moveSpan_cases h with h | h | h
  · exact .inl ⟨_, by simp, h.2⟩
  · exact .inl ⟨_, by simp, h.2.2⟩
  · exact .inr h.2

/-- Any command that checks readiness, then one condition: what it can do. -/
theorem checked_done {ok : Bool} {code : ResultCode} {run : Result}
    (h : whenReady s (require ok code s run) = .next t) :
    FailedWith s t [.notInit, code] ∨ (s.ready = true ∧ ok = true ∧ run = .next t) := by
  rcases whenReady_cases h with ⟨-, h⟩ | ⟨h1, h⟩
  · exact .inl ⟨_, by simp, h⟩
  · rcases require_cases h with ⟨-, h⟩ | ⟨h2, h⟩
    · exact .inl ⟨_, by simp, h⟩
    · exact .inr ⟨h1, h2, h⟩

/-- Any command that checks readiness alone: what it can do. -/
theorem ready_done {run : Result} (h : whenReady s run = .next t) :
    FailedWith s t [.notInit] ∨ (s.ready = true ∧ run = .next t) := by
  rcases whenReady_cases h with ⟨-, h⟩ | h
  · exact .inl ⟨_, by simp, h⟩
  · exact .inr h

theorem execConvProcess_cases (h : execConvProcess s = .next t) :
    FailedWith s t [.notInit] ∨
    (s.ready = true ∧ s.blockSize ≤ 1024 ∧
      t = finish 0#32 0#32 (if s.irLoaded then convProcessed s else convPassThrough s)) := by
  rcases ready_done h with h | ⟨h1, h⟩
  · exact .inl h
  · obtain ⟨h2, h⟩ := requireDecoded_cases h
    injection h with h
    exact .inr ⟨h1, (block_valid_iff s).1 h2, h.symm⟩

theorem execGranProcess_cases (h : execGranProcess s = .next t) :
    FailedWith s t [.notInit] ∨
    (s.ready = true ∧ s.blockSize ≤ 1024 ∧
      ((s.srcLoaded = true ∧ t = finish 0#32 0#32 (granProcessed s)) ∨
       (s.srcLoaded = false ∧ t = finish 0#32 0#32 (granSilence s)))) := by
  rcases ready_done h with h | ⟨h1, h⟩
  · exact .inl h
  · obtain ⟨h2, h⟩ := requireDecoded_cases h
    refine .inr ⟨h1, (block_valid_iff s).1 h2, ?_⟩
    split at h
    · obtain ⟨-, h⟩ := requireDecoded_cases h
      injection h with h
      exact .inl ⟨‹_›, h.symm⟩
    · rename_i hn
      injection h with h
      exact .inr ⟨eq_false_of_ne_true hn, h.symm⟩

theorem execSpecProcess_cases (h : execSpecProcess s = .next t) :
    FailedWith s t [.notInit] ∨
    (s.ready = true ∧ s.blockSize ≤ 1024 ∧ t = finish 0#32 0#32 (specProcessed s)) := by
  rcases ready_done h with h | ⟨h1, h⟩
  · exact .inl h
  · obtain ⟨h2, h⟩ := requireDecoded_cases h
    injection h with h
    exact .inr ⟨h1, (block_valid_iff s).1 h2, h.symm⟩

end

/-! ### The process commands, when they complete -/

section
variable {s : State}

theorem execConvProcess_loaded (h : s.ready = true) (hl : s.irLoaded = true) (hb : s.blockSize ≤ 1024) :
    execConvProcess s = .next (finish 0#32 0#32 (convProcessed s)) := by
  rw [execConvProcess, whenReady_true h, requireBlocks, requireDecoded_true ((block_valid_iff s).2 hb), if_pos hl]

theorem execConvProcess_unloaded (h : s.ready = true) (hl : s.irLoaded = false) (hb : s.blockSize ≤ 1024) :
    execConvProcess s = .next (finish 0#32 0#32 (convPassThrough s)) := by
  rw [execConvProcess, whenReady_true h, requireBlocks, requireDecoded_true ((block_valid_iff s).2 hb), if_neg (by simp [hl])]

theorem execGranProcess_loaded (h : s.ready = true) (hl : s.srcLoaded = true) (hb : s.blockSize ≤ 1024)
    (hs : s.gran.srcFrames * s.gran.srcChannels ≤ Config.srcCapWords) :
    execGranProcess s = .next (finish 0#32 0#32 (granProcessed s)) := by
  rw [execGranProcess, whenReady_true h, requireBlocks, requireDecoded_true ((block_valid_iff s).2 hb), if_pos hl,
    requireDecoded_true ((sourceSpan_valid_iff s).2 hs)]

theorem execGranProcess_unloaded (h : s.ready = true) (hl : s.srcLoaded = false) (hb : s.blockSize ≤ 1024) :
    execGranProcess s = .next (finish 0#32 0#32 (granSilence s)) := by
  rw [execGranProcess, whenReady_true h, requireBlocks, requireDecoded_true ((block_valid_iff s).2 hb), if_neg (by simp [hl])]

theorem execSpecProcess_completes (h : s.ready = true) (hb : s.blockSize ≤ 1024) :
    execSpecProcess s = .next (finish 0#32 0#32 (specProcessed s)) := by
  rw [execSpecProcess, whenReady_true h, requireBlocks, requireDecoded_true ((block_valid_iff s).2 hb)]

/-- A state whose arena is `s`'s with two output blocks written has those words there and every other byte of `s`. -/
theorem wroteOutputs_of {t : State} {outL outR : List Word} (hb : s.blockSize ≤ 1024) (hl : outL.length = s.blockSize)
    (hr : outR.length = s.blockSize) (ha : t.arena = (writeOutputs s outL outR).arena)
    (hp : t.powerCycles = s.powerCycles) :
    WroteOutputs s t (fun k => outL.getD k 0#32) (fun k => outR.getD k 0#32) := by
  have hbyte : ∀ a, t.readByte a = (writeOutputs s outL outR).readByte a := fun a => by
    simp only [State.readByte, ha, hp]
    rfl
  refine ⟨fun k hk => ?_, fun k hk => ?_, fun a h1 h2 => ?_⟩
  · rw [State.readWord_congr (s := writeOutputs s outL outR) (fun a _ _ => hbyte a)]
    exact readWord_writeOutputs_left s outL outR k _ (by omega) (by omega)
  · rw [State.readWord_congr (s := writeOutputs s outL outR) (fun a _ _ => hbyte a)]
    exact readWord_writeOutputs_right s outL outR k _ (by omega)
  · rw [hbyte]
    exact readByte_writeOutputs_other s outL outR (by rw [hl]; exact h1) (by rw [hr]; exact h2)

end

end Sys2Proof.Machine
end

