-- ==== Sys2Proof/Laws/Numbers.lean ====
section
/-! SUPPORT. Laws of the binary32 operations (40_numerics.md): what the comparisons say, the ranges of the configured
functions, what patterns denote, and where rounding is exact. -/

namespace Sys2Proof.Machine

/-! ### Comparisons (R107) -/

theorem F32.lt_iff (a b : Word) :
    F32.lt a b = true ↔ F32.isNaN a = false ∧ F32.isNaN b = false ∧ F32.val a < F32.val b := by
  simp [F32.lt, and_assoc]

theorem F32.le_iff (a b : Word) :
    F32.le a b = true ↔ F32.isNaN a = false ∧ F32.isNaN b = false ∧ F32.val a ≤ F32.val b := by
  simp [F32.le, and_assoc]

theorem F32.eq_iff (a b : Word) :
    F32.eq a b = true ↔ F32.isNaN a = false ∧ F32.isNaN b = false ∧ F32.val a = F32.val b := by
  simp [F32.eq, and_assoc]

/-- A comparison that fails between two values that are no NaN is the opposite one. -/
theorem F32.lt_eq_false {a b : Word} (ha : F32.isNaN a = false) (hb : F32.isNaN b = false) :
    F32.lt a b = false ↔ F32.val b ≤ F32.val a := by
  rw [Bool.eq_false_iff, Ne, F32.lt_iff]
  constructor
  · intro h
    by_contra hc
    exact h ⟨ha, hb, by omega⟩
  · rintro h ⟨-, -, h2⟩
    omega

/-- Nothing is less than a NaN, or a NaN less than anything. -/
theorem F32.lt_nan {a b : Word} (h : F32.isNaN a = true ∨ F32.isNaN b = true) : F32.lt a b = false := by
  rcases h with h | h <;> simp [F32.lt, h]

theorem F32.le_nan {a b : Word} (h : F32.isNaN a = true ∨ F32.isNaN b = true) : F32.le a b = false := by
  rcases h with h | h <;> simp [F32.le, h]

/-! ### The ranges of the configured functions (R115) -/

/-- Whatever the free function answers, the wrapped value lies in [-1, 1]. -/
theorem withinOne_range (w : Word) :
    F32.le (F32.neg F32.one) (withinOne w) = true ∧ F32.le (withinOne w) F32.one = true := by
  unfold withinOne
  split
  · rename_i h; simpa using h
  · decide

/-- Whatever the free function answers, the wrapped value lies in [-PI_F, PI_F]. -/
theorem withinPi_range (w : Word) :
    F32.le (F32.neg Config.piF) (withinPi w) = true ∧ F32.le (withinPi w) Config.piF = true := by
  unfold withinPi
  split
  · rename_i h; simpa using h
  · decide

/-- Whatever the free function answers, the wrapped value is above 0. -/
theorem positive_pos (w : Word) : F32.lt F32.zero (positive w) = true := by
  unfold positive
  split
  · assumption
  · decide

/-! ### Patterns -/

/-- The 31 bits below the sign, as exponent and fraction. -/
theorem F32.low_bits (w : Word) : w.toNat % 2 ^ 31 = F32.expo w * 2 ^ 23 + F32.frac w := by
  simp only [F32.expo, F32.frac, BitVec.extractLsb'_toNat, Nat.shiftRight_eq_div_pow]
  omega

theorem F32.expo_lt (w : Word) : F32.expo w < 256 := (w.extractLsb' 23 8).isLt

theorem F32.frac_lt (w : Word) : F32.frac w < 2 ^ 23 := (w.extractLsb' 0 23).isLt

/-- The sign is the top bit. -/
theorem F32.sign_eq (w : Word) : F32.sign w = decide (2 ^ 31 ≤ w.toNat) := by
  have h := w.isLt
  simp only [F32.sign, BitVec.getLsbD, Nat.testBit_eq_decide_div_mod_eq]
  congr 1
  simp only [eq_iff_iff]
  omega

/-- A pattern is its sign and its low bits, packed. -/
theorem F32.pack_self (w : Word) : F32.pack (F32.sign w) (F32.expo w * 2 ^ 23 + F32.frac w) = w := by
  apply BitVec.eq_of_toNat_eq
  rw [← F32.low_bits, F32.sign_eq]
  have h := w.isLt
  simp only [F32.pack, BitVec.toNat_ofNat, decide_eq_true_eq]
  split <;> omega

/-! ### Where rounding is exact (R105) -/

theorem F32.roundNearest_exact {num den q : Nat} (hd : 0 < den) (h : num = q * den) : F32.roundNearest num den = q := by
  subst h
  simp [F32.roundNearest, hd]

/-- A finite value's magnitude rounds to its own bits: `mag w` units are `num / den` exactly. -/
theorem F32.roundBits_mag {w : Word} (hf : F32.isFinite w = true) {den : Nat} (hd : 0 < den) :
    F32.roundBits (F32.mag w * den) den = F32.expo w * 2 ^ 23 + F32.frac w := by
  have he : F32.expo w ≠ 255 := by simpa [F32.isFinite] using hf
  have h256 := F32.expo_lt w
  have hfr := F32.frac_lt w
  unfold F32.roundBits
  rw [Nat.mul_div_cancel _ hd]
  by_cases h0 : F32.expo w = 0
  · have hk : Nat.log2 (F32.mag w) - 23 = 0 := by
      rcases Nat.eq_zero_or_pos (F32.mag w) with h | h
      · simp [h]
      · have : Nat.log2 (F32.mag w) < 23 := by
          rw [Nat.log2_lt (by omega)]
          simpa [F32.mag, h0] using hfr
        omega
    simp only [hk]
    rw [F32.roundNearest_exact (q := F32.mag w) (by simpa using hd) (by simp)]
    simp only [F32.mag, h0, if_true]
    omega
  · have hm : F32.mag w = (2 ^ 23 + F32.frac w) * 2 ^ (F32.expo w - 1) := by simp [F32.mag, h0]
    have hk : Nat.log2 (F32.mag w) - 23 = F32.expo w - 1 := by
      have : Nat.log2 (F32.mag w) = F32.expo w - 1 + 23 := by
        rw [Nat.log2_eq_iff (by rw [hm]; positivity), hm]
        constructor
        · rw [Nat.add_comm (F32.expo w - 1), Nat.pow_add]
          exact Nat.mul_le_mul_right _ (by omega)
        · have : 2 ^ (F32.expo w - 1 + 23 + 1) = 2 ^ 24 * 2 ^ (F32.expo w - 1) := by
            rw [← Nat.pow_add]
            congr 1
            omega
          rw [this]
          exact Nat.mul_lt_mul_of_pos_right (by omega) (by positivity)
      omega
    have hr : F32.roundNearest (F32.mag w * den) (den * 2 ^ (F32.expo w - 1)) = 2 ^ 23 + F32.frac w :=
      F32.roundNearest_exact (by positivity) (by rw [hm]; ring)
    simp only [hk, hr]
    omega

/-! ### Packed patterns -/

theorem F32.pack_toNat (neg : Bool) {bits : Nat} (h : bits < 2 ^ 31) :
    (F32.pack neg bits).toNat = (if neg then 2 ^ 31 else 0) + bits := by
  simp only [F32.pack, BitVec.toNat_ofNat]
  split <;> omega

theorem F32.expo_pack (neg : Bool) {bits : Nat} (h : bits < 2 ^ 31) : F32.expo (F32.pack neg bits) = bits / 2 ^ 23 := by
  simp only [F32.expo, BitVec.extractLsb'_toNat, Nat.shiftRight_eq_div_pow, F32.pack_toNat neg h]
  split <;> omega

theorem F32.frac_pack (neg : Bool) {bits : Nat} (h : bits < 2 ^ 31) : F32.frac (F32.pack neg bits) = bits % 2 ^ 23 := by
  simp only [F32.frac, BitVec.extractLsb'_toNat, Nat.shiftRight_eq_div_pow, F32.pack_toNat neg h]
  split <;> omega

theorem F32.sign_pack (neg : Bool) {bits : Nat} (h : bits < 2 ^ 31) : F32.sign (F32.pack neg bits) = neg := by
  rw [F32.sign_eq, F32.pack_toNat neg h]
  cases neg
  · simpa using h
  · simp

/-- A magnitude of at most 24 significant bits, below 2^101, is rounded to itself. -/
theorem F32.mag_pack_roundBits (neg : Bool) {f j den : Nat} (hf : f < 2 ^ 24) (hv : f * 2 ^ j < 2 ^ 250)
    (hd : 0 < den) :
    F32.roundBits (f * 2 ^ j * den) den < 0x7F800000 ∧
    F32.mag (F32.pack neg (F32.roundBits (f * 2 ^ j * den) den)) = f * 2 ^ j := by
  generalize hv' : f * 2 ^ j = v at hv
  have hdiv : v * den / den = v := Nat.mul_div_cancel _ hd
  by_cases hs : v < 2 ^ 24
  · have hk : Nat.log2 v - 23 = 0 := by
      rcases Nat.eq_zero_or_pos v with h | h
      · simp [h]
      · have : Nat.log2 v < 24 := by rw [Nat.log2_lt (by omega)]; exact hs
        omega
    have hb : F32.roundBits (v * den) den = v := by
      have hr : F32.roundNearest (v * den) (den * 2 ^ 0) = v := F32.roundNearest_exact (by simpa using hd) (by simp)
      simp only [F32.roundBits, hdiv, hk, hr]
      omega
    rw [hb]
    refine ⟨by omega, ?_⟩
    simp only [F32.mag, F32.expo_pack neg (show v < 2 ^ 31 by omega), F32.frac_pack neg (show v < 2 ^ 31 by omega)]
    have h1 : v / 2 ^ 23 = 0 ∨ v / 2 ^ 23 = 1 := by omega
    rcases h1 with h1 | h1
    · simp only [h1, if_true]; omega
    · simp only [h1]; simp; omega
  · have hv0 : v ≠ 0 := by omega
    obtain ⟨L, hL⟩ : ∃ L, Nat.log2 v = L := ⟨_, rfl⟩
    have hLb := (Nat.log2_eq_iff hv0).1 hL
    have hL24 : 24 ≤ L := by
      by_contra hc
      have : 2 ^ (L + 1) ≤ 2 ^ 24 := Nat.pow_le_pow_right (by omega) (by omega)
      omega
    have hL277 : L < 250 := by
      by_contra hc
      have : 2 ^ 250 ≤ 2 ^ L := Nat.pow_le_pow_right (by omega) (by omega)
      omega
    have hj : L - 23 ≤ j := by
      by_contra hc
      have h2 : f * 2 ^ j < 2 ^ 24 * 2 ^ j := Nat.mul_lt_mul_of_pos_right hf (by positivity)
      have h3 : 2 ^ 24 * 2 ^ j ≤ 2 ^ L := by
        rw [← Nat.pow_add]
        exact Nat.pow_le_pow_right (by omega) (by omega)
      omega
    obtain ⟨q, hq⟩ : ∃ q, v = q * 2 ^ (L - 23) :=
      ⟨f * 2 ^ (j - (L - 23)), by
        rw [← hv', Nat.mul_assoc, ← Nat.pow_add]
        congr 2
        omega⟩
    have hqlo : 2 ^ 23 ≤ q := by
      by_contra hc
      have h2 : q * 2 ^ (L - 23) < 2 ^ 23 * 2 ^ (L - 23) := Nat.mul_lt_mul_of_pos_right (by omega) (by positivity)
      rw [← Nat.pow_add, show 23 + (L - 23) = L by omega] at h2
      omega
    have hqhi : q < 2 ^ 24 := by
      by_contra hc
      have h2 : 2 ^ 24 * 2 ^ (L - 23) ≤ q * 2 ^ (L - 23) := Nat.mul_le_mul_right _ (by omega)
      rw [← Nat.pow_add, show 24 + (L - 23) = L + 1 by omega] at h2
      omega
    have hb : F32.roundBits (v * den) den = q + (L - 23) * 2 ^ 23 := by
      have hr : F32.roundNearest (v * den) (den * 2 ^ (L - 23)) = q :=
        F32.roundNearest_exact (by positivity) (by rw [hq]; ring)
      simp only [F32.roundBits, hdiv, hL, hr]
      exact Nat.min_eq_left (by omega)
    rw [hb]
    refine ⟨by omega, ?_⟩
    have h31 : q + (L - 23) * 2 ^ 23 < 2 ^ 31 := by omega
    simp only [F32.mag, F32.expo_pack neg h31, F32.frac_pack neg h31]
    have he : (q + (L - 23) * 2 ^ 23) / 2 ^ 23 = L - 23 + 1 := by omega
    have hfr : (q + (L - 23) * 2 ^ 23) % 2 ^ 23 = q - 2 ^ 23 := by omega
    have e1 : 2 ^ 23 + (q - 2 ^ 23) = q := by omega
    have e2 : L - 23 + 1 - 1 = L - 23 := by omega
    rw [he, hfr, if_neg (by omega), e1, e2, hq]

end Sys2Proof.Machine
end

