-- ==== Sys2Proof/WellFormed.lean ====
section
/-! DEFINITION. Well-formedness of a command word and of a command (30_encoding.md R85, R86, R90). A command
carries no field, so the checks stand on its word: RSV is zero, and OPC is in the opcode map. -/

namespace Sys2Proof

/-- RSV is zero (R85). -/
def rsvClear (w : Word) : Bool := rsvOf w == 0#24

/-- OPC is an opcode of R88. -/
def opcAssigned (w : Word) : Bool := (lookupOpcode (opcOf w)).isSome

/-- A word is a legal command word: both checks hold (R86). -/
def wordWellFormed (w : Word) : Bool := rsvClear w && opcAssigned w

/-- A command is well-formed when its word is (R88: all 26 are). -/
def Instr.wellFormed (i : Instr) : Bool := wordWellFormed (encode i)

end Sys2Proof
end

