-- ==== Sys2Proof/Laws/PerInstr.lean ====
section
/-! SUPPORT. The family `EncodingLaw` of statements about each command as syntax, one lemma per constructor. -/

namespace Sys2Proof.Laws

/-- The command's word is well-formed, carries its opcode below a zero RSV, and decodes to the command
(30_encoding.md R85, R86, R88). -/
def EncodingLaw.Statement (i : Instr) : Prop :=
  i.wellFormed = true ∧ opcOf (encode i) = opcodeOf i ∧ rsvOf (encode i) = 0#24 ∧ decode (encode i) = .ok i

theorem EncodingLaw.nop : EncodingLaw.Statement .nop := ⟨rfl, rfl, rfl, rfl⟩
theorem EncodingLaw.init : EncodingLaw.Statement .init := ⟨rfl, rfl, rfl, rfl⟩
theorem EncodingLaw.cleanup : EncodingLaw.Statement .cleanup := ⟨rfl, rfl, rfl, rfl⟩
theorem EncodingLaw.getInputBuffer : EncodingLaw.Statement .getInputBuffer := ⟨rfl, rfl, rfl, rfl⟩
theorem EncodingLaw.getOutputBuffer : EncodingLaw.Statement .getOutputBuffer := ⟨rfl, rfl, rfl, rfl⟩
theorem EncodingLaw.bufScale : EncodingLaw.Statement .bufScale := ⟨rfl, rfl, rfl, rfl⟩
theorem EncodingLaw.bufAdd : EncodingLaw.Statement .bufAdd := ⟨rfl, rfl, rfl, rfl⟩
theorem EncodingLaw.bufMix : EncodingLaw.Statement .bufMix := ⟨rfl, rfl, rfl, rfl⟩
theorem EncodingLaw.bufCopy : EncodingLaw.Statement .bufCopy := ⟨rfl, rfl, rfl, rfl⟩
theorem EncodingLaw.bufClear : EncodingLaw.Statement .bufClear := ⟨rfl, rfl, rfl, rfl⟩
theorem EncodingLaw.bufInterleave : EncodingLaw.Statement .bufInterleave := ⟨rfl, rfl, rfl, rfl⟩
theorem EncodingLaw.bufDeinterleave : EncodingLaw.Statement .bufDeinterleave := ⟨rfl, rfl, rfl, rfl⟩
theorem EncodingLaw.bufGainRamp : EncodingLaw.Statement .bufGainRamp := ⟨rfl, rfl, rfl, rfl⟩
theorem EncodingLaw.bufSoftClip : EncodingLaw.Statement .bufSoftClip := ⟨rfl, rfl, rfl, rfl⟩
theorem EncodingLaw.bufHardClip : EncodingLaw.Statement .bufHardClip := ⟨rfl, rfl, rfl, rfl⟩
theorem EncodingLaw.bufDcRemove : EncodingLaw.Statement .bufDcRemove := ⟨rfl, rfl, rfl, rfl⟩
theorem EncodingLaw.bufFindPeak : EncodingLaw.Statement .bufFindPeak := ⟨rfl, rfl, rfl, rfl⟩
theorem EncodingLaw.envLookup : EncodingLaw.Statement .envLookup := ⟨rfl, rfl, rfl, rfl⟩
theorem EncodingLaw.convLoadIr : EncodingLaw.Statement .convLoadIr := ⟨rfl, rfl, rfl, rfl⟩
theorem EncodingLaw.convProcess : EncodingLaw.Statement .convProcess := ⟨rfl, rfl, rfl, rfl⟩
theorem EncodingLaw.convReset : EncodingLaw.Statement .convReset := ⟨rfl, rfl, rfl, rfl⟩
theorem EncodingLaw.granLoadSource : EncodingLaw.Statement .granLoadSource := ⟨rfl, rfl, rfl, rfl⟩
theorem EncodingLaw.granProcess : EncodingLaw.Statement .granProcess := ⟨rfl, rfl, rfl, rfl⟩
theorem EncodingLaw.granReset : EncodingLaw.Statement .granReset := ⟨rfl, rfl, rfl, rfl⟩
theorem EncodingLaw.specProcess : EncodingLaw.Statement .specProcess := ⟨rfl, rfl, rfl, rfl⟩
theorem EncodingLaw.specReset : EncodingLaw.Statement .specReset := ⟨rfl, rfl, rfl, rfl⟩

end Sys2Proof.Laws
end

