-- ==== Sys2Proof/Machine/HostProgram.lean ====
section
/-! DEFINITION. The host-program syntax (30_encoding.md R96 to R98) as abstract statements, and their expansion into
the host's moves. The step does not use it: it says what a written host program stands for. -/

namespace Sys2Proof.Machine

/-- The register names of 10_state.md R20. -/
inductive RegName where
  | cmd | status | arg0 | arg1 | arg2 | arg3 | arg4 | result0 | result1 | sampleRate | blockSize | convPartitions
  | grainActive | srcFrames | srcChannels | rngState | hwIdent | caps0 | caps1
deriving DecidableEq, Repr

/-- The offset of a register (R20). -/
def RegName.offset : RegName → Nat
  | .cmd => 0x00
  | .status => 0x04
  | .arg0 => 0x08
  | .arg1 => 0x0C
  | .arg2 => 0x10
  | .arg3 => 0x14
  | .arg4 => 0x18
  | .result0 => 0x1C
  | .result1 => 0x20
  | .sampleRate => 0x24
  | .blockSize => 0x28
  | .convPartitions => 0x2C
  | .grainActive => 0x30
  | .srcFrames => 0x34
  | .srcChannels => 0x38
  | .rngState => 0x3C
  | .hwIdent => 0x40
  | .caps0 => 0x44
  | .caps1 => 0x48

/-- The region names of 20_memory.md R63. -/
inductive RegionName where
  | inL | inR | outL | outR | work | src | ir
deriving DecidableEq, Repr

/-- The region of a name (R63). -/
def RegionName.region : RegionName → Region
  | .inL => regionInL
  | .inR => regionInR
  | .outL => regionOutL
  | .outR => regionOutR
  | .work => regionWork
  | .src => regionSrc
  | .ir => regionIr

/-- A value of a host program (R96). -/
inductive HostValue where
  /-- A u32 literal. -/
  | u32 (n : Nat)
  /-- An f32 literal: a sign and `digits * 10^exponent`. -/
  | decimal (neg : Bool) (digits : Nat) (exponent : Int)
  /-- `f32:0xXXXXXXXX`, a raw pattern. -/
  | raw (w : Word)
  /-- `REGION+k`, a byte offset. -/
  | arena (r : RegionName) (k : Nat)
deriving DecidableEq, Repr

/-- The binary32 nearest a decimal literal, ties to even (R96). -/
def decimalWord (neg : Bool) (digits : Nat) (exponent : Int) : Word :=
  F32.pack neg
    (if 0 ≤ exponent then F32.roundBits (digits * 10 ^ exponent.toNat * F32.unitsPerOne) 1
     else F32.roundBits (digits * F32.unitsPerOne) (10 ^ (-exponent).toNat))

/-- The word a value stands for (R96). -/
def HostValue.word : HostValue → Word
  | .u32 n => BitVec.ofNat 32 n
  | .decimal neg digits exponent => decimalWord neg digits exponent
  | .raw w => w
  | .arena r k => BitVec.ofNat 32 (r.region.base + k)

/-- One statement of a host program (R96, R97, R98). -/
inductive HostStmt where
  /-- `wr REG, value`. -/
  | wr (r : RegName) (v : HostValue)
  /-- `rd REG`. -/
  | rd (r : RegName)
  /-- `wra off, value`. -/
  | wra (off v : HostValue)
  /-- `rda off`. -/
  | rda (off : HostValue)
  /-- `MNEMONIC op0, op1, ...`. -/
  | command (i : Instr) (ops : List HostValue)
  /-- `wait`. -/
  | wait
  /-- `wrv REGION+k, [v0, v1, ...]`. -/
  | wrv (r : RegionName) (k : Nat) (vs : List HostValue)
  /-- `rdv REGION+k, n`. -/
  | rdv (r : RegionName) (k n : Nat)
  /-- `seed v`. -/
  | seed (v : HostValue)
deriving DecidableEq, Repr

/-- The argument registers a command reads, in increasing order (R91, "-" columns skipped). -/
def argRegs : Instr → List RegName
  | .nop => []
  | .init => [.arg0, .arg1]
  | .cleanup => []
  | .getInputBuffer => [.arg0]
  | .getOutputBuffer => [.arg0]
  | .bufScale => [.arg0, .arg1, .arg2, .arg3]
  | .bufAdd => [.arg0, .arg1, .arg2]
  | .bufMix => [.arg0, .arg1, .arg2, .arg3]
  | .bufCopy => [.arg0, .arg1, .arg2]
  | .bufClear => [.arg0, .arg2]
  | .bufInterleave => [.arg0, .arg1, .arg2, .arg3]
  | .bufDeinterleave => [.arg0, .arg1, .arg2, .arg3]
  | .bufGainRamp => [.arg0, .arg1, .arg2, .arg3, .arg4]
  | .bufSoftClip => [.arg0, .arg1, .arg2]
  | .bufHardClip => [.arg0, .arg1, .arg2, .arg3]
  | .bufDcRemove => [.arg0, .arg1, .arg2]
  | .bufFindPeak => [.arg1, .arg2]
  | .envLookup => [.arg3]
  | .convLoadIr => [.arg0, .arg1]
  | .convProcess => [.arg0]
  | .convReset => []
  | .granLoadSource => [.arg0, .arg1]
  | .granProcess => [.arg0, .arg1, .arg2, .arg3, .arg4]
  | .granReset => []
  | .specProcess => [.arg0, .arg1]
  | .specReset => []

/-- `wr REG, w` as a move. -/
def wrMove (r : RegName) (w : Word) : HostEvent := .regWrite (BitVec.ofNat 32 r.offset) w

/-- The moves a statement expands to. A command is one `wr ARGi` per operand, then `wr CMD, word` (R97). BUSY
reads 0 in the model, so `wait` is one read of STATUS (R98). -/
def HostStmt.expand : HostStmt → List HostEvent
  | .wr r v => [wrMove r v.word]
  | .rd r => [.regRead (BitVec.ofNat 32 r.offset)]
  | .wra off v => [.arenaWrite off.word v.word]
  | .rda off => [.arenaRead off.word]
  | .command i ops => List.zipWith (fun r v => wrMove r v.word) (argRegs i) ops ++ [wrMove .cmd (encode i)]
  | .wait => [.regRead (BitVec.ofNat 32 RegName.status.offset)]
  | .wrv r k vs => vs.zipIdx.map (fun p => .arenaWrite (BitVec.ofNat 32 (r.region.base + k + 4 * p.2)) p.1.word)
  | .rdv r k n => (List.range n).map (fun i => .arenaRead (BitVec.ofNat 32 (r.region.base + k + 4 * i)))
  | .seed v => [wrMove .rngState v.word]

/-- The state with a host program still to come. -/
def State.withProgram (s : State) (program : List HostStmt) : State :=
  { s with pending := program.flatMap HostStmt.expand }

end Sys2Proof.Machine
end

