-- ==== Sys2Proof/Tests/Slice0.lean ====
section
/-! SUPPORT. Tests: the smoke test of well-formedness, decoding, one step per command on a small state, and a
witness for the hypotheses of every obligation. Expected values are the spec's own vectors (95_test_vectors.md,
V and S numbers) unless a comment says otherwise. -/

namespace Sys2Proof.Tests

open Sys2Proof.Machine

/-! ### Well-formedness (30_encoding.md R85, R86; V3) -/

theorem test_reservedBits_refused : wordWellFormed 0x00000100#32 = false ∧ rsvClear 0x00000100#32 = false := by decide
theorem test_topReservedBit_refused : wordWellFormed 0x80000001#32 = false ∧ rsvClear 0x80000001#32 = false := by decide
theorem test_unassignedOpcodes_refused :
    [0x00000005#32, 0x00000023#32, 0x00000042#32, 0x000000FF#32].map (fun w => (opcAssigned w, wordWellFormed w)) =
      List.replicate 4 (false, false) := by decide
theorem test_commands_wellFormed :
    wordWellFormed 0x00000000#32 = true ∧ wordWellFormed 0x0000001C#32 = true ∧ Instr.specReset.wellFormed = true := by
  decide

/-! ### Decoding (30_encoding.md R85, R88), each word written out from its row -/

theorem test_decode_system :
    decode 0x00000000#32 = .ok .nop ∧ decode 0x00000001#32 = .ok .init ∧ decode 0x00000002#32 = .ok .cleanup ∧
    decode 0x00000003#32 = .ok .getInputBuffer ∧ decode 0x00000004#32 = .ok .getOutputBuffer := ⟨rfl, rfl, rfl, rfl, rfl⟩
theorem test_decode_buffer_first :
    decode 0x00000010#32 = .ok .bufScale ∧ decode 0x00000011#32 = .ok .bufAdd ∧ decode 0x00000012#32 = .ok .bufMix ∧
    decode 0x00000013#32 = .ok .bufCopy ∧ decode 0x00000014#32 = .ok .bufClear ∧
    decode 0x00000015#32 = .ok .bufInterleave ∧ decode 0x00000016#32 = .ok .bufDeinterleave :=
  ⟨rfl, rfl, rfl, rfl, rfl, rfl, rfl⟩
theorem test_decode_buffer_rest :
    decode 0x00000017#32 = .ok .bufGainRamp ∧ decode 0x00000018#32 = .ok .bufSoftClip ∧
    decode 0x00000019#32 = .ok .bufHardClip ∧ decode 0x0000001A#32 = .ok .bufDcRemove ∧
    decode 0x0000001B#32 = .ok .bufFindPeak ∧ decode 0x0000001C#32 = .ok .envLookup := ⟨rfl, rfl, rfl, rfl, rfl, rfl⟩
theorem test_decode_engines :
    decode 0x00000020#32 = .ok .convLoadIr ∧ decode 0x00000021#32 = .ok .convProcess ∧
    decode 0x00000022#32 = .ok .convReset ∧ decode 0x00000030#32 = .ok .granLoadSource ∧
    decode 0x00000031#32 = .ok .granProcess ∧ decode 0x00000032#32 = .ok .granReset ∧
    decode 0x00000040#32 = .ok .specProcess ∧ decode 0x00000041#32 = .ok .specReset :=
  ⟨rfl, rfl, rfl, rfl, rfl, rfl, rfl, rfl⟩
theorem test_decode_illegal :
    decode 0x00000005#32 = .error .unassignedOpcode ∧ decode 0x00000100#32 = .error .reservedBits := ⟨rfl, rfl⟩
theorem test_decodeTableWord : decodeTableWord 32 0x17 = some .bufGainRamp ∧ decodeTableWord 32 0x1FF = none := ⟨rfl, rfl⟩

/-! ### Small states -/

/-- The machine after `INIT 44100.0, 32` (41_system.md R139). -/
def readyState : State := { State.reset with ready := true, sampleRate := 0x472C4400#32, blockSize := 32 }

/-- The same with the argument registers set. -/
def withArgs (a0 a1 a2 a3 a4 : Word) (s : State) : State :=
  { s with arg0 := a0, arg1 := a1, arg2 := a2, arg3 := a3, arg4 := a4 }

/-- A ready machine with words at WORK and the argument registers set. -/
def workState (ws : List Word) (a0 a1 a2 a3 a4 : Word) : State :=
  withArgs a0 a1 a2 a3 a4 (readyState.writeWords 0x4000 ws)

/-- What a reader sees of a completed command: STATUS, RESULT0, RESULT1 and the first `n` words at an offset. -/
def seenAfter (i : Instr) (s : State) (off n : Nat) : Option (Word × Word × Word × List Word) :=
  match exec i s with
  | .next t => some (t.status, t.result0, t.result1, t.readSpan ⟨off, n⟩)
  | _ => none

/-! ### System commands -/

/-- V4. -/
theorem test_nop : seenAfter .nop State.reset 0 0 = some (0#32, 0#32, 0#32, []) := by decide +kernel
/-- V1, the lowest rate and block size. -/
theorem test_init_lowest :
    seenAfter .init (withArgs 0x45FA0000#32 32#32 0#32 0#32 0#32 State.reset) 0 0 = some (0x200#32, 0#32, 0#32, []) := by
  decide +kernel
/-- V1, 7999.0 with block size 31: the rate is checked first. -/
theorem test_init_rate_first :
    seenAfter .init (withArgs 0x45F9F800#32 31#32 0#32 0#32 0#32 State.reset) 0 0 =
      some (1#32, 0xFFFFFFFF#32, 0#32, []) := by decide +kernel
/-- V6. -/
theorem test_cleanup :
    seenAfter .cleanup { readyState with irLoaded := true, srcLoaded := true } 0 0 = some (0#32, 0#32, 0#32, []) := by
  decide +kernel
/-- V5. -/
theorem test_getInputBuffer :
    seenAfter .getInputBuffer (withArgs 1#32 0#32 0#32 0#32 0#32 readyState) 0 0 =
      some (0x200#32, 0x1000#32, 32#32, []) := by decide +kernel
/-- V5, channel 2. -/
theorem test_getOutputBuffer_channel :
    seenAfter .getOutputBuffer (withArgs 2#32 0#32 0#32 0#32 0#32 readyState) 0 0 =
      some (0x204#32, 0xFFFFFFFF#32, 0#32, []) := by decide +kernel

/-! ### Buffer primitives -/

/-- S1, the first three elements. -/
theorem test_bufScale :
    seenAfter .bufScale (workState [0x3F800000#32, 0x40000000#32, 0x40400000#32] 0x4000#32 0x4000#32 3#32 0x40000000#32 0#32)
      0x4000 3 = some (0x200#32, 0#32, 0#32, [0x40000000#32, 0x40800000#32, 0x40C00000#32]) := by decide +kernel
/-- V20, the partial overlap. -/
theorem test_bufScale_overlap :
    seenAfter .bufScale (workState [0x3F800000#32] 0x4004#32 0x4000#32 3#32 0x40000000#32 0#32) 0x4000 2 =
      some (0x206#32, 0xFFFFFFFF#32, 0#32, [0x3F800000#32, 0#32]) := by decide +kernel
/-- V21, row 1. -/
theorem test_bufAdd :
    seenAfter .bufAdd
      (workState [0x3F800000#32, 0xC0000000#32, 0#32, 0#32, 0x3F000000#32, 0x40000000#32] 0x4000#32 0x4010#32 2#32 0#32 0#32)
      0x4000 2 = some (0x200#32, 0#32, 0#32, [0x3FC00000#32, 0#32]) := by decide +kernel
/-- V22, no fusion of the product and the sum. -/
theorem test_bufMix :
    seenAfter .bufMix (workState [0x3F800000#32, 0x3DCCCCCD#32] 0x4000#32 0x4004#32 1#32 0x3DCCCCCD#32 0#32) 0x4000 1 =
      some (0x200#32, 0#32, 0#32, [0x3F8147AE#32]) := by decide +kernel
/-- V23. -/
theorem test_bufCopy :
    seenAfter .bufCopy (workState [0x7FC00001#32, 0x80000000#32, 0x3F800000#32] 0x4010#32 0x4000#32 3#32 0#32 0#32)
      0x4010 3 = some (0x200#32, 0#32, 0#32, [0x7FC00001#32, 0x80000000#32, 0x3F800000#32]) := by decide +kernel
/-- V24, with a third word that stays. -/
theorem test_bufClear :
    seenAfter .bufClear (workState [0xBF800000#32, 0x80000000#32, 0x3F800000#32] 0x4000#32 0#32 2#32 0#32 0#32) 0x4000 3 =
      some (0x200#32, 0#32, 0#32, [0#32, 0#32, 0x3F800000#32]) := by decide +kernel
/-- V25. -/
theorem test_bufInterleave :
    seenAfter .bufInterleave
      (workState [0x3F800000#32, 0x40000000#32, 0#32, 0#32, 0xBF800000#32, 0xC0000000#32] 0x4040#32 0x4000#32 2#32
        0x4010#32 0#32) 0x4040 4 =
      some (0x200#32, 0#32, 0#32, [0x3F800000#32, 0xBF800000#32, 0x40000000#32, 0xC0000000#32]) := by decide +kernel
/-- V25, the source at W+16 instead of W+64. -/
theorem test_bufDeinterleave :
    seenAfter .bufDeinterleave
      (workState [0#32, 0#32, 0#32, 0#32, 0x3F800000#32, 0xBF800000#32, 0x40000000#32, 0xC0000000#32] 0x4000#32 0x4010#32
        2#32 0x4008#32 0#32) 0x4000 4 =
      some (0x200#32, 0#32, 0#32, [0x3F800000#32, 0x40000000#32, 0xBF800000#32, 0xC0000000#32]) := by decide +kernel
/-- V26, row 2. -/
theorem test_bufGainRamp :
    seenAfter .bufGainRamp
      (workState [0x3F800000#32, 0x3F800000#32, 0x3F800000#32] 0x4000#32 0x4000#32 3#32 0#32 0x3F800000#32) 0x4000 3 =
      some (0x200#32, 0#32, 0#32, [0#32, 0x3EAAAAAB#32, 0x3F2AAAAB#32]) := by decide +kernel
/-- V27, row 2. -/
theorem test_bufSoftClip :
    seenAfter .bufSoftClip
      (workState [0x80000000#32, 0x7FC00001#32, 0xFF800000#32, 0x3DCCCCCD#32, 0xBF000000#32] 0x4000#32 0x4000#32 5#32 0#32
        0#32) 0x4000 5 =
      some (0x200#32, 0#32, 0#32, [0#32, 0x7FC00001#32, 0xBF800000#32, 0x3E191688#32, 0xBF300000#32]) := by decide +kernel
/-- V28, row 2. -/
theorem test_bufHardClip :
    seenAfter .bufHardClip
      (workState [0x3F000000#32, 0xC0000000#32, 0x80000000#32, 0x7FC00000#32] 0x4000#32 0x4000#32 4#32 0xC0000000#32 0#32)
      0x4000 4 = some (0x200#32, 0#32, 0#32, [0#32, 0x80000000#32, 0x80000000#32, 0x7FC00000#32]) := by decide +kernel
/-- V29, row 2. -/
theorem test_bufDcRemove :
    seenAfter .bufDcRemove
      (workState [0x3DCCCCCD#32, 0x3E4CCCCD#32, 0x3E99999A#32] 0x4040#32 0x4000#32 3#32 0#32 0#32) 0x4040 3 =
      some (0x200#32, 0#32, 0#32, [0xBDCCCCCD#32, 0#32, 0x3DCCCCCE#32]) := by decide +kernel
/-- V30, row 3: NaNs skipped. -/
theorem test_bufFindPeak :
    seenAfter .bufFindPeak (workState [0x7FC00000#32, 0xBF000000#32, 0xFFC00000#32] 0#32 0x4000#32 3#32 0#32 0#32) 0 0 =
      some (0x200#32, 0x3F000000#32, 0#32, []) := by decide +kernel
/-- V31: phase 0.125, and 2.0 clamped. -/
theorem test_envLookup :
    seenAfter .envLookup (withArgs 0#32 0#32 0#32 0x3E000000#32 0#32 readyState) 0 0 =
      some (0x200#32, 0x3E15F61A#32, 128#32, []) ∧
    seenAfter .envLookup (withArgs 0#32 0#32 0#32 0x40000000#32 0#32 readyState) 0 0 =
      some (0x200#32, 0x371DE9C6#32, 1023#32, []) := by decide +kernel

/-! ### The engines -/

/-- V48: a zero-length load, and a channel count of 3. -/
theorem test_convLoadIr :
    seenAfter .convLoadIr (withArgs 0#32 1#32 0#32 0#32 0#32 readyState) 0 0 = some (0x200#32, 0#32, 0#32, []) ∧
    seenAfter .convLoadIr (withArgs 10#32 3#32 0#32 0#32 0#32 readyState) 0 0 =
      some (0x205#32, 0xFFFFFFFF#32, 0#32, []) := by decide +kernel
/-- V46. -/
theorem test_convProcess_passThrough :
    seenAfter .convProcess
      (withArgs 0x3E99999A#32 0#32 0#32 0#32 0#32 (readyState.writeWords 0 [0x80000000#32, 0x3FC00000#32, 0x7FC00001#32]))
      0x2000 4 = some (0x200#32, 0#32, 0#32, [0x80000000#32, 0x3FC00000#32, 0x7FC00001#32, 0#32]) := by decide +kernel
/-- V45, dryWet -0.0 in the first block after a load: -0.0 stays -0.0. The block is a channel's first three samples. -/
theorem test_convBlock_pureDry :
    (convBlock .reference (F32.sub F32.one (clampDryWet 0x80000000#32)) (clampDryWet 0x80000000#32)
      [(0x3F400000#32, 0#32), (0x80000000#32, 0#32), (0xBF800000#32, 0#32)]
      (convClearHistory { Conv.zero with parts := 1 }) 0).outL = [0x3F400000#32, 0x80000000#32, 0xBF800000#32] := by
  decide +kernel
/-- V50: CONV_RESET discards the pending tail and keeps CONV_PARTITIONS. -/
theorem test_convReset :
    (match exec .convReset
        { readyState with
          irLoaded := true
          conv := { Conv.zero with parts := 1, fill := 5, left := { ConvChan.zero with tail := [0x3F800000#32] } } } with
     | .next t => some (t.status, t.regRead 0x2C, t.conv.fill, t.conv.left.tail.getD 0 1#32)
     | _ => none) = some (0x600#32, 1#32, 0, 0#32) := by decide +kernel
/-- V64, rows 1 and 3. -/
theorem test_granLoadSource :
    seenAfter .granLoadSource (withArgs 1000000#32 1#32 0#32 0#32 0#32 readyState) 0 0 =
      some (0x4A00#32, 0x000D7550#32, 1#32, []) ∧
    seenAfter .granLoadSource (withArgs 0#32 2#32 0#32 0#32 0#32 readyState) 0 0 = some (0x200#32, 0#32, 2#32, []) := by
  decide +kernel
/-- V63. -/
theorem test_granProcess_silence :
    seenAfter .granProcess
      (withArgs 0x42800000#32 0x447A0000#32 0x7FC00000#32 0x7F800000#32 0xBF800000#32
        (readyState.writeWords 0x2000 [0x40A00000#32])) 0x2000 2 = some (0x200#32, 0#32, 0#32, [0#32, 0#32]) := by
  decide +kernel
/-- V60, the spawn at t = 7: the grain's fields and the generator. -/
theorem test_granSpawn :
    (match (granSpawn .reference
        (granParams (withArgs 0x42800000#32 0x447A0000#32 0#32 0x3F000000#32 0#32
          { readyState with sampleRate := 0x45FA0000#32 })) Gran.zero).grains with
     | g :: _ => some (g.active, g.pos, g.rate, g.pan, g.amp, g.dur)
     | [] => none) = some (true, 0x3F000000#32, 0x3F800000#32, 0x3D7778F9#32, 0x3F6D4E9E#32, 64) := by decide +kernel
/-- V61's reset. -/
theorem test_granReset :
    (match exec .granReset
        { readyState with srcLoaded := true, gran := { Gran.zero with grains := [{ Grain.zero with active := true }] } } with
     | .next t => some (t.status, t.regRead 0x30, t.regRead 0x3C)
     | _ => none) = some (0xA00#32, 0#32, 0x3039#32) := by decide +kernel
/-- V81, and R217: the first hop is zero, the input enters the sliding buffer at 1536. -/
theorem test_specProcess :
    (match exec .specProcess (withArgs 0#32 0#32 0#32 0#32 0#32 (readyState.writeWords 0 [0x3F800000#32])) with
     | .next t => some (t.status, t.readWord 0x2000, t.spec.fill, t.spec.left.inBuf.getD 1536 0#32)
     | _ => none) = some (0x200#32, 0#32, 32, 0x3F800000#32) := by decide +kernel
/-- V84, step 5. -/
theorem test_specReset :
    (match exec .specReset
        { readyState with
          spec := { Spec.zero with left := { SpecChan.zero with frozen := true },
                                   right := { SpecChan.zero with frozen := true } } } with
     | .next t => some t.status
     | _ => none) = some 0x200#32 := by decide +kernel
/-- V16, the first three draws. -/
theorem test_generator :
    lcgNext 12345#32 = 0x05391C44#32 ∧ lcgNext 0x05391C44#32 = 0x043C7AD3#32 ∧
    lcgNext 0x043C7AD3#32 = 0x8B0C4216#32 := by decide
/-- V12, V13 and V14, one row each. -/
theorem test_transcendental :
    F32.exp2 .reference 0x3F000000#32 = 0x3FB504F3#32 ∧ F32.atan2 .reference 0x3F800000#32 0#32 = 0x3FC90FDB#32 ∧
    F32.wrapPi 0x40800000#32 = 0xC0121FB6#32 := by decide +kernel
/-- R118 with N = 4, by hand: the transform of (1, 2, 3, 4) is (10, -2 + 2i, -2, -2 - 2i). The spec's N are 256 and
2048. -/
theorem test_fft_four :
    (refFft 4 .fwd [C32.ofReal 0x3F800000#32, C32.ofReal 0x40000000#32, C32.ofReal 0x40400000#32,
      C32.ofReal 0x40800000#32]).map (fun z => (z.re, F32.abs z.im, F32.lt z.im F32.zero)) =
    [(0x41200000#32, 0#32, false), (0xC0000000#32, 0x40000000#32, false), (0xC0000000#32, 0#32, false),
     (0xC0000000#32, 0x40000000#32, true)] := by decide +kernel

/-! ### Host moves -/

/-- P1, one step: the host's write of BUF_SCALE's word runs the command. -/
theorem test_step_runs_command :
    (match step ((workState [0x3F800000#32] 0x4010#32 0x4000#32 1#32 0x3F000000#32 0#32).withFetchWord 32 0x10) with
     | .next t => some (t.cmd, t.status, t.readWord 0x4010, t.pending)
     | _ => none) = some (0x10#32, 0x200#32, 0x3F000000#32, []) := by decide +kernel
/-- V2, HW_ID, by a host read. -/
theorem test_host_read :
    (match step { State.reset with pending := [.regRead 0x40#32] } with
     | .next t => some t.seen
     | _ => none) = some [0x52415331#32] := by decide +kernel
/-- P5: the host writes CMD = 0x100. -/
theorem test_illegal_command :
    (match step { readyState with pending := [.regWrite 0#32 0x100#32] } with
     | .next t => some (t.status, t.result0)
     | _ => none) = some (0x207#32, 0xFFFFFFFF#32) := by decide +kernel
/-- R96, R97: `INIT 44100.0, 128` expands to P1's three writes. -/
theorem test_host_program :
    HostStmt.expand (.command .init [.decimal false 44100 0, .u32 128]) =
      [.regWrite 0x08#32 0x472C4400#32, .regWrite 0x0C#32 0x80#32, .regWrite 0x00#32 0x01#32] := by decide +kernel

/-! ### Witnesses: a concrete state and operands for the hypotheses of each obligation, clause by clause -/

/-- The pending list starts with one event. -/
def withEvent (e : HostEvent) (s : State) : State := { s with pending := [e] }

/-- A ready machine with the argument registers of a primitive. -/
def spanState (a0 a1 a2 a3 : Word) : State := withArgs a0 a1 a2 a3 0#32 readyState

/-- The span check of a primitive with one destination and one source. -/
def pairOk (s : State) : Bool := spanPairOk ⟨s.arg0.toNat, s.arg2.toNat⟩ ⟨s.arg1.toNat, s.arg2.toNat⟩

/-- A ready machine with a one-partition IR. -/
def loadedState : State := { readyState with irLoaded := true, conv := { Conv.zero with parts := 1 } }

/-- A ready machine with the longest mono source. -/
def sourceState : State :=
  { readyState with srcLoaded := true, gran := { Gran.zero with srcFrames := 882000, srcChannels := 1 } }

/-- A ready machine is as the invariant says. -/
theorem readyState_inv : readyState.Inv where
  arena := rfl
  config := fun _ => by decide
  conv := convClearHistory_inv (c := Conv.zero) (Nat.zero_le _) ⟨rfl, fun _ h => nomatch h⟩
  loadedIr := fun h => nomatch h
  gran := ⟨List.length_replicate, by decide, by decide⟩
  loadedSrc := fun h => nomatch h
  spec := specClear_inv

theorem init_runs {s : State} (h1 : rateOk s.arg0 = true) (h2 : blockOk s.arg1 = true) :
    exec .init s = .next (finish 0#32 0#32 (initialised s.arg0 s.arg1 s)) := by
  rw [exec_init, execInit, require_true h1, require_true h2]

theorem witness_CommandWordRunsOrIsIllegal :
    rsvOf 0x00000100#32 ≠ 0#24 ∧ (∀ i, opcOf 0x00000005#32 ≠ opcodeOf i) ∧
    rsvOf 0x00000041#32 = 0#24 ∧ opcOf 0x00000041#32 = opcodeOf .specReset :=
  ⟨by decide, fun i => by cases i <;> decide, by decide, by decide⟩

theorem witness_StepRunsTheDecodedCommand :
    (withEvent (.regWrite 0x00000000#32 0x00000010#32) readyState).pending = [.regWrite 0x00000000#32 0x00000010#32] ∧
    decode 0x00000010#32 = .ok .bufScale ∧
    (withEvent (.regWrite 0x00000000#32 0x00000100#32) readyState).pending = [.regWrite 0x00000000#32 0x00000100#32] ∧
    readyState.pending = [] := ⟨rfl, rfl, rfl, rfl⟩

theorem witness_NopAndCleanupComplete :
    Instr.specReset ≠ .nop ∧ Instr.specReset ≠ .init ∧ Instr.specReset ≠ .cleanup := by decide

theorem witness_CommandsNeedReady :
    Instr.bufScale ≠ .nop ∧ Instr.bufScale ≠ .init ∧ Instr.bufScale ≠ .cleanup ∧ State.reset.ready = false := by decide

theorem witness_FailingCommandChangesNothingElse :
    exec .bufScale State.reset = .next (raiseRC .notInit State.reset) ∧ (raiseRC .notInit State.reset).rc ≠ .ok :=
  ⟨rfl, by decide⟩

theorem witness_PossibleResultCodes :
    exec .cleanup readyState =
      .next (finish 0#32 0#32 { readyState with ready := false, irLoaded := false, srcLoaded := false }) ∧
    exec .init State.reset = .next (raiseRC .badRate State.reset) ∧
    (∀ i ∈ [Instr.getInputBuffer, .bufScale, .convLoadIr, .specReset],
      exec i State.reset = .next (raiseRC .notInit State.reset)) ∧
    (∀ i, decode 0x00000005#32 ≠ .ok i) ∧
    runCommand 0x00000005#32 State.reset = .next (raiseRC .illegalCmd { State.reset with cmd := 0x00000005#32 }) :=
  ⟨rfl, by rw [exec_init, execInit, require_false (by decide)], by simp [exec_notReady, State.reset],
    fun i => by rw [test_decode_illegal.1]; simp, rfl⟩

theorem witness_OnlyItsCommandsWriteAnEngine :
    exec .bufScale State.reset = .next (raiseRC .notInit State.reset) := rfl

theorem witness_OnlyItsCommandsWriteTheArena :
    exec .nop readyState = .next (finish 0#32 0#32 readyState) ∧
    (∃ t, exec .init (withArgs 0x45FA0000#32 32#32 0#32 0#32 0#32 readyState) = .next t) ∧
    ∃ t, exec .convProcess readyState = .next t :=
  ⟨rfl, ⟨_, init_runs (by decide) (by decide)⟩, _, execConvProcess_unloaded rfl rfl (by decide)⟩

/-- INIT's arguments at the boundaries of both ranges: the rate outside, the rate inside with the block size outside,
and both inside. -/
theorem witness_InitMeaning :
    ([(0x45F9FFFF#32, 32#32), (0x483B8001#32, 1024#32), (0x7FC00000#32, 32#32), (0x45FA0000#32, 31#32),
      (0x483B8000#32, 1025#32), (0x45FA0000#32, 32#32), (0x483B8000#32, 1024#32)].map (fun a =>
        let s := withArgs a.1 a.2 0#32 0#32 0#32 State.reset
        (F32.le 0x45FA0000#32 s.arg0 && F32.le s.arg0 0x483B8000#32,
          decide (32 ≤ s.arg1.toNat) && decide (s.arg1.toNat ≤ 1024)))) =
      [(false, true), (false, true), (false, true), (true, false), (true, false), (true, true), (true, true)] := by
  decide +kernel

theorem witness_InitErasesHistory :
    (withArgs 0x45FA0000#32 32#32 0#32 0#32 0#32 readyState).arg0 =
      (withArgs 0x45FA0000#32 32#32 1#32 1#32 1#32 sourceState).arg0 ∧
    (withArgs 0x45FA0000#32 32#32 0#32 0#32 0#32 readyState).arg1 =
      (withArgs 0x45FA0000#32 32#32 1#32 1#32 1#32 sourceState).arg1 ∧
    (∃ t, runCommand 0x00000001#32 (withArgs 0x45FA0000#32 32#32 0#32 0#32 0#32 readyState) = .next t ∧ t.rc = .ok) ∧
    ∃ t, runCommand 0x00000001#32 (withArgs 0x45FA0000#32 32#32 1#32 1#32 1#32 sourceState) = .next t :=
  ⟨rfl, rfl,
    ⟨_, init_runs (s := { withArgs 0x45FA0000#32 32#32 0#32 0#32 0#32 readyState with cmd := 0x00000001#32 })
      (by decide) (by decide), rfl⟩,
    _, init_runs (s := { withArgs 0x45FA0000#32 32#32 1#32 1#32 1#32 sourceState with cmd := 0x00000001#32 })
      (by decide) (by decide)⟩

theorem witness_BufferViews :
    State.reset.ready = false ∧ readyState.ready = true ∧ 1 < (spanState 2#32 0#32 0#32 0#32).arg0.toNat ∧
    (spanState 0#32 0#32 0#32 0#32).arg0.toNat ≤ 1 ∧ (spanState 1#32 0#32 0#32 0#32).arg0.toNat ≤ 1 := by decide

theorem witness_BufArithmeticMeaning :
    State.reset.ready = false ∧ (spanState 0x4004#32 0x4000#32 3#32 0#32).ready = true ∧
    pairOk (spanState 0x4004#32 0x4000#32 3#32 0#32) = false ∧
    pairOk (spanState 0x0FFC#32 0x7FFC#32 1#32 0#32) = true ∧
    pairOk (spanState 0x365540#32 0x365540#32 0#32 0#32) = true := by decide

theorem witness_BufCopyAndClearMeaning :
    State.reset.ready = false ∧ (spanState 0x4008#32 0x4000#32 3#32 0#32).ready = true ∧
    pairOk (spanState 0x4008#32 0x4000#32 3#32 0#32) = false ∧
    pairOk (spanState 0x0FFC#32 0x7FFC#32 1#32 0#32) = true ∧
    pairOk (spanState 0x365540#32 0x365540#32 0#32 0#32) = true := by decide

theorem witness_BufRampAndDcRemoveMeaning :
    State.reset.ready = false ∧ (spanState 0x4002#32 0x4000#32 3#32 0#32).ready = true ∧
    pairOk (spanState 0x4002#32 0x4000#32 3#32 0#32) = false ∧
    pairOk (spanState 0x0FFC#32 0x7FFC#32 1#32 0#32) = true ∧
    pairOk (spanState 0x365540#32 0x365540#32 0#32 0#32) = true := by decide

theorem witness_BufClipMeaning :
    State.reset.ready = false ∧ (spanState 0x0FFC#32 0x4000#32 3#32 0#32).ready = true ∧
    pairOk (spanState 0x0FFC#32 0x4000#32 3#32 0#32) = false ∧
    pairOk (spanState 0x0FFC#32 0x7FFC#32 1#32 0#32) = true ∧
    pairOk (spanState 0x365540#32 0x365540#32 0#32 0#32) = true := by decide
theorem witness_BufCopyAndClearMeaning_clear :
    State.reset.ready = false ∧ (spanState 0x365540#32 0#32 1#32 0#32).ready = true ∧
    (dstSpan (spanState 0x365540#32 0#32 1#32 0#32)).valid = false ∧
    (dstSpan (spanState 0x365540#32 0#32 0#32 0#32)).valid = true ∧
    (dstSpan (spanState 0x514A9C#32 0#32 1#32 0#32)).valid = true := by decide

theorem witness_BufInterleaveAndDeinterleaveMeaning :
    State.reset.ready = false ∧
    (let s := spanState 0x4000#32 0x4000#32 2#32 0x4010#32;
      s.ready = true ∧ interleaveOk (dstSpan s).doubled (srcSpan s) (thirdSpan s) = false) ∧
    (let s := spanState 0x7FF0#32 0x4000#32 2#32 0x4000#32;
      s.ready = true ∧ interleaveOk (dstSpan s).doubled (srcSpan s) (thirdSpan s) = true) ∧
    (let s := spanState 0x4000#32 0x4040#32 2#32 0x4004#32;
      s.ready = true ∧ deinterleaveOk (dstSpan s) (thirdSpan s) (srcSpan s).doubled = false) ∧
    (let s := spanState 0x4000#32 0x7FF0#32 2#32 0x4008#32;
      s.ready = true ∧ deinterleaveOk (dstSpan s) (thirdSpan s) (srcSpan s).doubled = true) := by decide

/-- R152 at its boundaries: spans that touch do not overlap, spans that share one word do, and an empty span overlaps
nothing. -/
theorem test_span_overlap :
    Span.overlaps ⟨0x4000, 4⟩ ⟨0x4010, 4⟩ = false ∧ Span.overlaps ⟨0x4000, 4⟩ ⟨0x400C, 4⟩ = true ∧
    Span.overlaps ⟨0x4000, 4⟩ ⟨0x4004, 0⟩ = false := by decide

/-- R8: PMAX is MAX_IR_FRAMES in sub-blocks of HC, rounded up. -/
theorem test_parameters :
    Config.pMax = (Config.maxIrFrames + Config.hc - 1) / Config.hc ∧ Config.nCh = 2 ∧ Config.vecW = 4 := by decide

theorem witness_BufFindPeakMeaning :
    State.reset.ready = false ∧ (spanState 0#32 0x0FFC#32 2#32 0#32).ready = true ∧
    (srcSpan (spanState 0#32 0x0FFC#32 2#32 0#32)).valid = false ∧
    (srcSpan (spanState 0#32 0x0FFC#32 1#32 0#32)).valid = true := by decide

theorem witness_EnvLookupMeaning : State.reset.ready = false ∧ readyState.ready = true := by decide

theorem witness_ConvLoadIrMeaning :
    State.reset.ready = false ∧ readyState.ready = true ∧ (spanState 1#32 3#32 0#32 0#32).arg1.toNat ≠ 1 ∧
    (spanState 1#32 3#32 0#32 0#32).arg1.toNat ≠ 2 ∧ (spanState 1#32 1#32 0#32 0#32).arg1.toNat = 1 ∧
    (spanState 1#32 2#32 0#32 0#32).arg1.toNat = 2 := by decide

theorem witness_ConvResetClearsTheHistory : State.reset.ready = false ∧ loadedState.ready = true := ⟨rfl, rfl⟩

theorem witness_GranAndSpecResetComplete : State.reset.ready = false ∧ sourceState.ready = true := ⟨rfl, rfl⟩

theorem witness_ConvProcessPassesThrough :
    readyState.ready = true ∧ readyState.irLoaded = false ∧ ({ readyState with blockSize := 1024 } : State).blockSize ≤ 1024 :=
  ⟨rfl, rfl, by decide⟩

theorem witness_ConvProcessCompletes :
    loadedState.ready = true ∧ loadedState.irLoaded = true ∧ loadedState.blockSize ≤ 1024 := ⟨rfl, rfl, by decide⟩

theorem witness_ConvWithinSubblock :
    ({ Conv.zero with fill := 126 } : Conv).fill + [((1#32 : Word), (2#32 : Word))].length < 128 ∧
    126 < ({ Conv.zero with fill := 126 } : Conv).left.input.length ∧
    126 < ({ Conv.zero with fill := 126 } : Conv).right.input.length ∧
    ({ Conv.zero with fill := 126 } : Conv).fill + 1 ≠ 128 := by
  simp [Conv.zero, ConvChan.zero, Config.hc]

theorem witness_ConvSubblockStep :
    ({ Conv.zero with fill := 127, parts := 1 } : Conv).fill + 1 = 128 ∧
    0 < ({ Conv.zero with fill := 127, parts := 1 } : Conv).parts := by decide

theorem witness_ConvFirstSubblockIsSilent :
    (List.replicate 128 ((0x3F800000#32 : Word), (0x80000000#32 : Word))).length ≤ 128 ∧
    (∀ x ∈ List.replicate 128 ((0x3F800000#32 : Word), (0x80000000#32 : Word)),
      F32.isFinite x.1 = true ∧ F32.isFinite x.2 = true) ∧
    127 < (List.replicate 128 ((0x3F800000#32 : Word), (0x80000000#32 : Word))).length :=
  ⟨by simp, fun x h => by rw [List.eq_of_mem_replicate h]; decide, by simp⟩

theorem witness_GranLoadSourceMeaning :
    State.reset.ready = false ∧ readyState.ready = true ∧ (spanState 1#32 0#32 0#32 0#32).arg1.toNat ≠ 1 ∧
    (spanState 1#32 0#32 0#32 0#32).arg1.toNat ≠ 2 ∧ (spanState 1#32 2#32 0#32 0#32).arg1.toNat = 2 := by decide

theorem witness_GranProcessIsSilentWithoutSource :
    readyState.ready = true ∧ readyState.srcLoaded = false ∧ readyState.blockSize ≤ 1024 := ⟨rfl, rfl, by decide⟩

theorem witness_GranProcessCompletes :
    sourceState.ready = true ∧ sourceState.srcLoaded = true ∧ sourceState.blockSize ≤ 1024 ∧
    sourceState.gran.srcFrames * sourceState.gran.srcChannels ≤ 882000 := ⟨rfl, rfl, by decide, by decide⟩

theorem witness_GranSpawnTakesTheFirstFreeGrain :
    (∀ x ∈ List.replicate 100 { Grain.zero with active := true }, x.active = true) ∧
    99 < (List.replicate 99 { Grain.zero with active := true } ++ [Grain.zero]).length ∧
    ((List.replicate 99 { Grain.zero with active := true } ++ [Grain.zero]).getD 99 Grain.zero).active = false ∧
    ∀ m, m < 99 →
      ((List.replicate 99 { Grain.zero with active := true } ++ [Grain.zero]).getD m Grain.zero).active = true := by
  decide +kernel

/-- R198's example: interval 8.0, and the accumulator at 7.0 and at 6.0. -/
theorem witness_GranSpawnTiming :
    let p := granParams (withArgs 0x42800000#32 0x447A0000#32 0#32 0x3F000000#32 0#32
      { readyState with sampleRate := 0x45FA0000#32 })
    F32.le p.interval (F32.add ({ Gran.zero with acc := 0x40E00000#32 } : Gran).acc 0x3F800000#32) = true ∧
    F32.le p.interval (F32.add ({ Gran.zero with acc := 0x40C00000#32 } : Gran).acc 0x3F800000#32) = false := by
  decide +kernel

theorem witness_GranSampleRendersThenAdvances :
    Grain.zero.active = false ∧ ({ Grain.zero with active := true } : Grain).active = true ∧
    sourceState.gran.srcChannels = 1 ∧ ({ Gran.zero with srcChannels := 2 } : Gran).srcChannels = 2 :=
  ⟨rfl, rfl, rfl, rfl⟩

theorem witness_SpecProcessCompletes : readyState.ready = true ∧ readyState.blockSize ≤ 1024 := ⟨rfl, by decide⟩

theorem witness_SpecWithinHop :
    ({ specClear with fill := 510 } : Spec).fill + [((1#32 : Word), (2#32 : Word))].length < 512 ∧
    2046 < ({ specClear with fill := 510 } : Spec).left.inBuf.length ∧
    2046 < ({ specClear with fill := 510 } : Spec).right.inBuf.length ∧
    ({ specClear with fill := 510 } : Spec).fill + 1 ≠ 512 :=
  have h := lt_of_lt_of_eq (by decide : 2046 < 2048) (List.length_replicate (n := 2048) (a := (0#32 : Word))).symm
  ⟨by decide, h, h, by decide⟩

theorem witness_SpecFreezeFlags :
    readyState.ready = true ∧ readyState.spec.fill < 512 ∧ (∃ t, exec .specProcess readyState = .next t) ∧
    F32.eq (specParams readyState).freeze 0x00000000#32 = true ∧
    (∃ t, exec .specProcess (spanState 0x3F800000#32 0#32 0#32 0#32) = .next t) ∧
    F32.lt 0x00000000#32 (specParams (spanState 0x3F800000#32 0#32 0#32 0#32)).freeze = true :=
  ⟨rfl, by decide, ⟨_, execSpecProcess_completes rfl (by decide)⟩, by decide +kernel,
    ⟨_, execSpecProcess_completes rfl (by decide)⟩, by decide +kernel⟩

theorem witness_SpecFreezeAndShiftSteps :
    F32.lt 0x00000000#32 0x80000000#32 = false ∧ F32.lt 0x00000000#32 0x00000001#32 = true ∧
    (⟨0#32, 0x3F800000#32, false⟩ : SpecParams).shiftActive = false ∧
    (⟨0#32, 0x3F000000#32, true⟩ : SpecParams).shiftActive = true ∧
    F32.lt (F32.ofNat 1024) (F32.div (F32.ofNat 513) 0x3F000000#32) = true ∧
    F32.lt (F32.ofNat 1024) (F32.div (F32.ofNat 512) 0x3F000000#32) = false := by decide +kernel

theorem witness_SpecPhaseVocoder : (1024 : Nat) < 1025 := by decide

theorem witness_SpecResynthesisAndOverlapAdd :
    ({ specClear with fill := 511 } : Spec).fill + 1 = 512 ∧ specClear.left.outRing.length = 4096 ∧
    (1024 : Nat) < 1025 ∧ (1023 : Nat) < 1024 := ⟨rfl, List.length_replicate, by decide, by decide⟩

/-- The hypotheses speak of INIT and the command alone; the arguments of the process command are free. -/
theorem witness_FirstBlocksAfterInitAreSilent :
    ∃ t, exec .init (withArgs 0x45FA0000#32 1024#32 0#32 0#32 0#32 readyState) = .next t ∧ t.rc = .ok ∧
      511 < t.blockSize ∧ Instr.specProcess ∈ [Instr.convProcess, .granProcess, .specProcess] :=
  ⟨_, init_runs (by decide) (by decide), rfl, by decide, by decide⟩

theorem witness_BlocksBeyondTheirRegionFault :
    readyState.ready = true ∧ 1024 < ({ readyState with blockSize := 1025 } : State).blockSize ∧
    sourceState.blockSize ≤ 1024 ∧ sourceState.srcLoaded = true ∧
    882000 < ({ sourceState.gran with srcFrames := 882001 } : Gran).srcFrames * sourceState.gran.srcChannels :=
  ⟨rfl, by decide, by decide, rfl, by decide⟩

theorem witness_RegisterReads :
    (withEvent (.regRead 0x48#32) readyState).pending = [.regRead 0x48#32] ∧
    (withEvent (.regRead 0xFC#32) readyState).pending = [.regRead 0xFC#32] ∧
    (0x48#32 : Word).toNat % 4 = 0 ∧ (0xFC#32 : Word).toNat % 4 = 0 ∧ (0xFC#32 : Word).toNat < 0x100 := by decide

theorem witness_RegisterWrites :
    (withEvent (.regWrite 0x3C#32 7#32) readyState).pending = [.regWrite 0x3C#32 7#32] ∧
    (withEvent (.regWrite 0x04#32 7#32) readyState).pending = [.regWrite 0x04#32 7#32] ∧
    (0x3C#32 : Word).toNat % 4 = 0 ∧ (0x3C#32 : Word).toNat < 0x100 ∧ (0x04#32 : Word).toNat ≠ 0 := by decide

theorem witness_ArenaAccesses :
    (0x514A9C#32 : Word).toNat % 4 = 0 ∧ decoded (0x514A9C#32 : Word).toNat = true ∧
    (withEvent (.arenaWrite 0x514A9C#32 7#32) readyState).pending = [.arenaWrite 0x514A9C#32 7#32] ∧
    (withEvent (.arenaRead 0x514A9C#32) readyState).pending = [.arenaRead 0x514A9C#32] := by decide

theorem witness_MalformedHostAccessesAreRefused :
    (withEvent (.arenaRead 0x365540#32) readyState).pending = [.arenaRead 0x365540#32] ∧
    (HostEvent.arenaRead 0x365540#32).legal = false ∧ (HostEvent.arenaRead 0x36553C#32).legal = true := by decide

theorem witness_PowerOnReset : (withEvent .powerOn readyState).pending = [.powerOn] := rfl

theorem witness_DrawnPatternsAreQuietNaNs :
    F32.isNaN 0x7F800000#32 = false ∧ 1 < [0x7FC00000#32, 0x7F800000#32].length ∧ 0 < [C32.zero].length := by decide

theorem witness_MultiplyingByOneIsExact : F32.isNaN 0x00000001#32 = false ∧ F32.isNaN 0xFF800000#32 = false := by decide

theorem witness_ClampStaysInRange :
    F32.le 0x00000000#32 0x3F800000#32 = true ∧ F32.isNaN 0x7FC00000#32 = true ∧ F32.isNaN 0x80000000#32 = false ∧
    F32.lt 0x80000001#32 0x00000000#32 = true ∧ F32.lt 0x3F800000#32 0x3F800001#32 = true ∧
    F32.le 0x00000000#32 0x80000000#32 = true ∧ F32.le 0x80000000#32 0x3F800000#32 = true := by decide

theorem witness_StepKeepsTheInvariant :
    (withEvent (.regWrite 0#32 0x00000021#32) readyState).Inv ∧
    ∃ t, step (withEvent (.regWrite 0#32 0x00000021#32) readyState) = .next t :=
  ⟨{ readyState_inv with },
    _, execConvProcess_unloaded (s := { readyState with cmd := 0x00000021#32 }) rfl rfl (by decide)⟩

theorem witness_LegalEventsAlwaysComplete :
    (withEvent (.regWrite 0#32 0x00000021#32) readyState).Inv ∧
    (withEvent (.regWrite 0#32 0x00000021#32) readyState).pending = [.regWrite 0#32 0x00000021#32] ∧
    (HostEvent.regWrite 0#32 0x00000021#32).legal = true := ⟨{ readyState_inv with }, rfl, by decide⟩

theorem witness_GrainPoolIsBounded :
    (withEvent (.regWrite 0#32 0x00000021#32) readyState).gran.Live ∧
    (withEvent (.regWrite 0#32 0x00000021#32) readyState).Inv ∧
    ∃ t, step (withEvent (.regWrite 0#32 0x00000021#32) readyState) = .next t :=
  ⟨fun x hx ha => by
    rw [List.eq_of_mem_replicate (show x ∈ List.replicate Config.grainPool Grain.zero from hx)] at ha; exact absurd ha (by decide),
    witness_StepKeepsTheInvariant⟩

end Sys2Proof.Tests
end

/-! PROOFS. The statements on the state (10_state.md): what a command and an event can write, the invariant they keep,
and the register space as the host sees it. -/

namespace Sys2Proof.Machine

/-! ### Events (20_memory.md R66, R67, R72): what a step can do -/

section
variable {s t : State} {run : Result} {off w : Word} {e : HostEvent} {rest : List HostEvent}

/-- A register access that has a meaning is made (R67). -/
theorem atRegister_accepts (ha : off.toNat % 4 = 0) (hb : off.toNat < 0x100) : atRegister off run = run := by
  simp [atRegister, ha, Nat.not_le.2 hb]

theorem atRegister_cases (h : atRegister off run = .next t) : run = .next t := by
  unfold atRegister at h
  split at h
  · cases h
  · split at h
    · cases h
    · exact h

theorem atArena_cases (h : atArena off run = .next t) :
    off.toNat % 4 = 0 ∧ decoded off.toNat = true ∧ run = .next t := by
  unfold atArena at h
  split at h
  · cases h
  · rename_i ha
    split at h
    · cases h
    · rename_i hd
      exact ⟨Decidable.of_not_not ha, by simpa using hd, h⟩

/-- An idle core stays as it is (assumption 2). -/
theorem step_idle (h : s.pending = []) : step s = .next s := by
  unfold step
  rw [h]

/-- A step takes the first pending event. -/
theorem step_pending (h : s.pending = e :: rest) : step s = hostStep e (s.takeEvent rest) := by
  unfold step
  rw [h]

theorem step_regRead (h : s.pending = .regRead off :: rest) (ha : off.toNat % 4 = 0) (hb : off.toNat < 0x100) :
    step s = .next ((s.takeEvent rest).observe ((s.takeEvent rest).regRead off.toNat)) := by
  rw [step_pending h, hostStep, atRegister_accepts ha hb]

/-- A host write to a register other than CMD (R23, R30, R33). -/
theorem step_regWrite (h : s.pending = .regWrite off w :: rest) (ha : off.toNat % 4 = 0) (hb : off.toNat < 0x100)
    (hc : off.toNat ≠ offCmd) : step s = .next ((s.takeEvent rest).regWrite off.toNat w) := by
  rw [step_pending h, hostStep, atRegister_accepts ha hb, if_neg hc]

/-- A host write to CMD runs the word (41_system.md R137). -/
theorem step_cmdWrite (h : s.pending = .regWrite 0x00000000#32 w :: rest) :
    step s = runCommand w (s.takeEvent rest) := by
  rw [step_pending h, hostStep, atRegister_accepts (by decide) (by decide), if_pos (by decide)]

/-- The word of a command runs it, with CMD written. -/
theorem runCommand_of_decode {i : Instr} (h : decode w = .ok i) (s : State) :
    runCommand w s = exec i { s with cmd := w } := by
  unfold runCommand
  rw [h]

/-- What one outside event can do to the core. -/
inductive HostEffect (s : State) : State → Prop
  /-- A host read, which writes the record of reads alone (R71). -/
  | observed (w : Word) : HostEffect s (s.observe w)
  /-- A write of a word to CMD that is no command. -/
  | illegal (w : Word) : HostEffect s (raiseRC .illegalCmd { s with cmd := w })
  /-- A write of a command word to CMD. -/
  | command (w : Word) (i : Instr) {t : State} (h : exec i { s with cmd := w } = .next t) : HostEffect s t
  /-- A write to another register. -/
  | regWrite (off : Nat) (w : Word) : HostEffect s (s.regWrite off w)
  /-- A write to the arena. -/
  | arenaWrite {off : Nat} (w : Word) (ha : off % 4 = 0) (hd : decoded off = true) : HostEffect s (s.writeWord off w)
  /-- The reset input. -/
  | powerOn : HostEffect s s.powerOn

theorem runCommand_effect (h : runCommand w s = .next t) : HostEffect s t := by
  unfold runCommand at h
  split at h
  · exact .command w _ h
  · injection h with h
    exact h ▸ .illegal w

theorem hostStep_effect (h : hostStep e s = .next t) : HostEffect s t := by
  cases e with
  | regRead off =>
    injection atRegister_cases h with h
    exact h ▸ .observed _
  | regWrite off w =>
    have h := atRegister_cases h
    split at h
    · exact runCommand_effect h
    · injection h with h
      exact h ▸ .regWrite _ w
  | arenaRead off =>
    obtain ⟨-, -, h⟩ := atArena_cases h
    injection h with h
    exact h ▸ .observed _
  | arenaWrite off w =>
    obtain ⟨ha, hd, h⟩ := atArena_cases h
    injection h with h
    exact h ▸ .arenaWrite w ha hd
  | otherWidth space off bits => cases h
  | powerOn =>
    injection h with h
    exact h ▸ .powerOn

/-- What a step can do: nothing when idle, else its event's effect with the event taken. -/
theorem step_effect (h : step s = .next t) : t = s ∨ ∃ rest, HostEffect (s.takeEvent rest) t := by
  cases hp : s.pending with
  | nil =>
    rw [step_idle hp] at h
    injection h with h
    exact .inl h.symm
  | cons e rest =>
    rw [step_pending hp] at h
    exact .inr ⟨rest, hostStep_effect h⟩

/-- A register write reaches the argument registers and the generator alone (R23, R30). -/
theorem State.regWrite_eq (s : State) (off : Nat) (w : Word) :
    ∃ a0 a1 a2 a3 a4 r, s.regWrite off w =
      { s with arg0 := a0, arg1 := a1, arg2 := a2, arg3 := a3, arg4 := a4, gran := { s.gran with rng := r } } := by
  unfold State.regWrite
  repeat' split
  all_goals exact ⟨_, _, _, _, _, _, rfl⟩

end

/-! ### Commands: what a command can write -/

/-- What a command can write. `wrote` serves every command that completes without touching an engine, a flag or the
configuration: its results, words of the arena, and the count of draws. The computed parts of a load and of a process
command are variables with what is known of them, so that comparing another field never evaluates them. -/
inductive CommandEffect (s : State) : Instr → State → Prop
  | failed (i : Instr) (c : ResultCode) : CommandEffect s i (raiseRC c s)
  | wrote (i : Instr) (r0 r1 : Word) (m : Arena) (n : Nat) (hm : Arena.wf s.arena = true → Arena.wf m = true) :
      CommandEffect s i (finish r0 r1 { s with arena := m, nanDraws := n })
  | init (hr : rateOk s.arg0 = true) (hb : blockOk s.arg1 = true) :
      CommandEffect s .init (finish 0#32 0#32 (initialised s.arg0 s.arg1 s))
  | cleanup :
      CommandEffect s .cleanup (finish 0#32 0#32 { s with ready := false, irLoaded := false, srcLoaded := false })
  | convLoadIr (b : Bool) (r0 r1 : Word) (n : Nat) {c : Conv} (hc : c.Inv) :
      CommandEffect s .convLoadIr
        (finishTrunc b r0 r1 { s with conv := c, irLoaded := decide (0 < c.parts), nanDraws := n })
  | convProcess (hl : s.irLoaded = true) (hb : s.blockSize ≤ 1024) {run : ConvRun}
      (hrun : run = convBlock s.numerics (F32.sub F32.one (clampDryWet s.arg0)) (clampDryWet s.arg0) (inputBlock s)
        s.conv s.nanDraws) :
      CommandEffect s .convProcess (finish 0#32 0#32
        { writeOutputs s run.outL run.outR with conv := run.conv, nanDraws := run.draws })
  | convReset : CommandEffect s .convReset (finish 0#32 0#32 { s with conv := convClearHistory s.conv })
  | granLoadSource (b : Bool) (r0 r1 : Word) {f ch : Nat} (hc : ch = 1 ∨ ch = 2) (hf : f * ch ≤ Config.srcCapWords) :
      CommandEffect s .granLoadSource (finishTrunc b r0 r1
        { s with gran := { s.gran with grains := silenced s.gran.grains, acc := F32.zero, srcFrames := f,
                                       srcChannels := ch },
                 srcLoaded := decide (0 < f) })
  | granProcess (hb : s.blockSize ≤ 1024) {run : GranRun}
      (hrun : run = granBlock s (granParams s) s.blockSize s.gran s.nanDraws) :
      CommandEffect s .granProcess (finish 0#32 0#32
        { writeOutputs s run.outL run.outR with gran := run.gran, nanDraws := run.draws })
  | granReset :
      CommandEffect s .granReset (finish 0#32 0#32
        { s with gran := { s.gran with grains := silenced s.gran.grains, acc := F32.zero } })
  | specProcess (hb : s.blockSize ≤ 1024) {run : SpecRun}
      (hrun : run = specBlock s.numerics (specParams s) (inputBlock s) (unfrozen (specParams s).freeze s.spec)
        s.nanDraws) :
      CommandEffect s .specProcess (finish 0#32 0#32
        { writeOutputs s run.outL run.outR with spec := run.spec, nanDraws := run.draws })
  | specReset : CommandEffect s .specReset (finish 0#32 0#32 { s with spec := specClear })

section
variable {s t : State} {i : Instr}

theorem FailedWith.effect {codes : List ResultCode} (h : FailedWith s t codes) : CommandEffect s i t := by
  obtain ⟨c, -, rfl⟩ := h
  exact .failed i c

/-- A command that only answers a result. -/
theorem CommandEffect.answered (r0 r1 : Word) : CommandEffect s i (finish r0 r1 s) :=
  .wrote i r0 r1 s.arena s.nanDraws id

/-- Words written inside a valid span keep the arena's canonical form. -/
theorem Arena.wf_writeSpan {sp : Span} (hv : sp.valid = true) {ws : List Word} (hl : ws.length ≤ sp.n) {m : Arena}
    (h : Arena.wf m = true) : Arena.wf (Arena.writeWords m sp.off ws) = true :=
  Arena.wf_writeWords ws h (fun _ h1 h2 => Span.decoded_of_valid hv h1 (by unfold Span.stop; omega))

/-- A primitive's source is as long as its destination (42_buffer_primitives.md R151). -/
theorem srcSpan_n (s : State) : (srcSpan s).n = (dstSpan s).n := rfl

/-- A computed primitive with no more elements than its source writes its destination alone. -/
theorem computeSpan_effect {f : List Word → List Word → List Word} (hf : ∀ xs ys, (f xs ys).length ≤ xs.length)
    (h : computeSpan s f = .next t) : CommandEffect s i t := by
  rcases computeSpan_done h with h | ⟨hp, rfl⟩
  · exact h.effect
  · obtain ⟨hv, -, -⟩ := (spanPairOk_iff _ _).1 hp
    refine .wrote i _ _ _ _ (Arena.wf_writeSpan hv ?_)
    simpa [srcSpan_n] using hf (s.readSpan (srcSpan s)) (s.readSpan (dstSpan s))

/-- A moving primitive with no more elements than its source writes its destination alone. -/
theorem moveSpan_effect {f : List Word → List Word} (hf : ∀ xs, (f xs).length ≤ xs.length)
    (h : moveSpan s f = .next t) : CommandEffect s i t := by
  rcases moveSpan_done h with h | ⟨hp, rfl⟩
  · exact h.effect
  · obtain ⟨hv, -, -⟩ := (spanPairOk_iff _ _).1 hp
    refine .wrote i _ _ _ _ (Arena.wf_writeSpan hv ?_)
    simpa [srcSpan_n] using hf (s.readSpan (srcSpan s))

theorem bufferView_effect {r0 r1 : Region} (h : bufferView r0 r1 s = .next t) : CommandEffect s i t := by
  rcases bufferView_done r0 r1 h with h | ⟨a, b, rfl⟩
  · exact h.effect
  · exact .answered a b

theorem execBufClear_effect (h : execBufClear s = .next t) : CommandEffect s i t := by
  rcases checked_done h with h | ⟨-, hv, h⟩
  · exact h.effect
  · injection h with h
    exact h ▸ .wrote i _ _ _ _ (Arena.wf_writeSpan hv (by simp))

theorem execBufInterleave_effect (h : execBufInterleave s = .next t) : CommandEffect s i t := by
  rcases checked_done h with h | ⟨-, hv, h⟩
  · exact h.effect
  · injection h with h
    simp only [interleaveOk, Bool.and_eq_true] at hv
    obtain ⟨⟨⟨⟨hd, -⟩, -⟩, -⟩, -⟩ := hv
    refine h ▸ .wrote i _ _ _ _ (Arena.wf_writeSpan hd ?_)
    simp [Span.doubled, dstSpan, srcSpan, Nat.mul_comm]

theorem execBufDeinterleave_effect (h : execBufDeinterleave s = .next t) : CommandEffect s i t := by
  rcases checked_done h with h | ⟨-, hv, h⟩
  · exact h.effect
  · injection h with h
    simp only [deinterleaveOk, Bool.and_eq_true] at hv
    obtain ⟨⟨⟨⟨⟨hl, -⟩, hr⟩, -⟩, -⟩, -⟩ := hv
    refine h ▸ .wrote i _ _ _ _ (fun hm => Arena.wf_writeSpan hr ?_ (Arena.wf_writeSpan hl ?_ hm))
    · simp [thirdSpan, dstSpan]
    · simp

theorem execBufFindPeak_effect (h : execBufFindPeak s = .next t) : CommandEffect s i t := by
  rcases checked_done h with h | ⟨-, -, h⟩
  · exact h.effect
  · injection h with h
    exact h ▸ .answered _ _

/-- A command that needs readiness alone and then completes in the state `u`. -/
theorem ready_effect {u : State} (hu : CommandEffect s i u) (h : whenReady s (.next u) = .next t) :
    CommandEffect s i t := by
  rcases ready_done h with h | ⟨-, h⟩
  · exact h.effect
  · injection h with h
    exact h ▸ hu

/-- Writing two output blocks is a write to the arena alone. -/
theorem writeOutputs_effect {outL outR : List Word} (hl : outL.length ≤ 1024) (hr : outR.length ≤ 1024) :
    CommandEffect s i (finish 0#32 0#32 (writeOutputs s outL outR)) :=
  .wrote i _ _ _ _ (fun h => wf_writeOutputs s outL outR h hl hr)

theorem execInit_effect (h : execInit s = .next t) : CommandEffect s .init t := by
  rcases execInit_cases h with h | ⟨hr, hb, rfl⟩
  · exact h.effect
  · exact .init hr hb

theorem execCleanup_effect (h : execCleanup s = .next t) : CommandEffect s .cleanup t := by
  injection h with h
  exact h ▸ .cleanup

/-- The engine that CONV_LOAD_IR leaves: the new partitions, and a cleared history (43_convolution.md R176). -/
theorem irLoadedState_conv_inv (s : State) (len ch : Nat) : (irLoadedState s len ch).conv.Inv :=
  convClearHistory_inv (irPartitions_le len ch) (irSpectra_inv _ _ _ _)

theorem execConvLoadIr_effect (h : execConvLoadIr s = .next t) : CommandEffect s .convLoadIr t := by
  rcases checked_done h with h | ⟨-, -, h⟩
  · exact h.effect
  · injection h with h
    exact h ▸ .convLoadIr _ _ _ _ (irLoadedState_conv_inv s _ _)

theorem execConvProcess_effect (h : execConvProcess s = .next t) : CommandEffect s .convProcess t := by
  rcases execConvProcess_cases h with h | ⟨-, hb, rfl⟩
  · exact h.effect
  · split
    · exact .convProcess ‹_› hb rfl
    · exact writeOutputs_effect (by simpa [State.block] using hb) (by simpa [State.block] using hb)

/-- A channel count that is accepted is 1 or 2. -/
theorem channelCountOk_iff (w : Word) : channelCountOk w = true ↔ w.toNat = 1 ∨ w.toNat = 2 := by
  simp [channelCountOk]

/-- The frames kept of a source fit the SRC region (44_granular.md R196). -/
theorem srcFramesKept_fits (len ch : Nat) : srcFramesKept len ch * ch ≤ Config.srcCapWords :=
  calc srcFramesKept len ch * ch
      _ ≤ Config.srcCapWords / ch * ch := Nat.mul_le_mul_right ch (Nat.min_le_right _ _)
      _ ≤ Config.srcCapWords := Nat.div_mul_le_self _ _

theorem execGranLoadSource_effect (h : execGranLoadSource s = .next t) : CommandEffect s .granLoadSource t := by
  rcases checked_done h with h | ⟨-, hc, h⟩
  · exact h.effect
  · injection h with h
    exact h ▸ .granLoadSource _ _ _ ((channelCountOk_iff _).1 hc) (srcFramesKept_fits _ _)

theorem execGranProcess_effect (h : execGranProcess s = .next t) : CommandEffect s .granProcess t := by
  rcases execGranProcess_cases h with h | ⟨-, hb, ⟨-, rfl⟩ | ⟨-, rfl⟩⟩
  · exact h.effect
  · exact .granProcess hb rfl
  · rw [granSilence]
    exact writeOutputs_effect (by simpa using hb) (by simpa using hb)

theorem execSpecProcess_effect (h : execSpecProcess s = .next t) : CommandEffect s .specProcess t := by
  rcases execSpecProcess_cases h with h | ⟨-, hb, rfl⟩
  · exact h.effect
  · exact .specProcess hb rfl

/-- What each command can write, over all of them. -/
theorem exec_effect (h : exec i s = .next t) : CommandEffect s i t := by
  cases i with
  | nop =>
    injection h with h
    exact h ▸ .answered _ _
  | init => exact execInit_effect h
  | cleanup => exact execCleanup_effect h
  | getInputBuffer => exact bufferView_effect h
  | getOutputBuffer => exact bufferView_effect h
  | bufScale =>
    rw [exec_bufScale, execBufScale] at h
    exact computeSpan_effect (fun _ _ => by simp) h
  | bufAdd =>
    rw [exec_bufAdd, execBufAdd] at h
    exact computeSpan_effect (fun _ _ => by simp) h
  | bufMix =>
    rw [exec_bufMix, execBufMix] at h
    exact computeSpan_effect (fun _ _ => by simp) h
  | bufCopy =>
    rw [exec_bufCopy, execBufCopy] at h
    exact moveSpan_effect (fun _ => Nat.le_refl _) h
  | bufClear => exact execBufClear_effect h
  | bufInterleave => exact execBufInterleave_effect h
  | bufDeinterleave => exact execBufDeinterleave_effect h
  | bufGainRamp =>
    rw [exec_bufGainRamp, execBufGainRamp] at h
    exact computeSpan_effect (fun _ _ => by simp [rampSpan]) h
  | bufSoftClip =>
    rw [exec_bufSoftClip, execBufSoftClip] at h
    exact moveSpan_effect (fun _ => by simp) h
  | bufHardClip =>
    rw [exec_bufHardClip, execBufHardClip] at h
    exact moveSpan_effect (fun _ => by simp) h
  | bufDcRemove =>
    rw [exec_bufDcRemove, execBufDcRemove] at h
    exact computeSpan_effect (fun _ _ => by simp [dcRemoved]) h
  | bufFindPeak => exact execBufFindPeak_effect h
  | envLookup => exact ready_effect (.answered _ _) h
  | convLoadIr => exact execConvLoadIr_effect h
  | convProcess => exact execConvProcess_effect h
  | convReset => exact ready_effect .convReset h
  | granLoadSource => exact execGranLoadSource_effect h
  | granProcess => exact execGranProcess_effect h
  | granReset => exact ready_effect .granReset h
  | specProcess => exact execSpecProcess_effect h
  | specReset => exact ready_effect .specReset h

end

section
variable {s t : State} {i : Instr}

/-! ### The invariant, command by command -/

/-- The empty pool of a reset or an INIT (10_state.md R40). -/
theorem Gran.zero_inv : Gran.zero.Inv where
  pool := List.length_replicate
  channels := Nat.zero_le _
  source := Nat.zero_le _

/-- The convolution engine after reset (10_state.md R38). -/
theorem Conv.zero_inv : Conv.zero.Inv :=
  convClearHistory_inv (c := Conv.zero) (Nat.zero_le _) ⟨rfl, fun _ hz => absurd hz List.not_mem_nil⟩

theorem blockOk_iff (w : Word) : blockOk w = true ↔ Config.bsMin ≤ w.toNat ∧ w.toNat ≤ Config.bsMax := by
  simp [blockOk]

/-- A successful INIT (41_system.md R139) leaves a valid configuration and every engine as after reset. -/
theorem initialised_inv (h : s.Inv) {sr bs : Word} (hr : rateOk sr = true) (hb : blockOk bs = true) :
    (initialised sr bs s).Inv where
  arena := Arena.wf_clearIo h.arena
  config := fun _ => ⟨hr, (blockOk_iff bs).1 hb⟩
  conv := Conv.zero_inv
  loadedIr := fun hl => nomatch hl
  gran := Gran.zero_inv
  loadedSrc := fun hl => nomatch hl
  spec := specClear_inv

/-- CONV_PROCESS with an IR (43_convolution.md R179). -/
theorem convProcess_inv (h : s.Inv) (hl : s.irLoaded = true) (hb : s.blockSize ≤ 1024) {dry wet : Word} {d : Nat}
    {run : ConvRun} (hrun : run = convBlock s.numerics dry wet (inputBlock s) s.conv d) :
    State.Inv { writeOutputs s run.outL run.outR with conv := run.conv, nanDraws := run.draws } := by
  have hp := h.loadedIr hl
  obtain ⟨hconv, hparts⟩ : run.conv.Inv ∧ run.conv.parts = s.conv.parts := hrun ▸ convBlock_inv _ _ _ _ h.conv hp _
  have hlen : run.outL.length = s.blockSize ∧ run.outR.length = s.blockSize := by simp [hrun]
  exact
    { h with
      arena := wf_writeOutputs s _ _ h.arena (hlen.1.trans_le hb) (hlen.2.trans_le hb)
      conv := hconv
      loadedIr := fun _ => hp.trans_eq hparts.symm }

/-- GRAN_PROCESS with a source (44_granular.md R198). -/
theorem granProcess_inv (h : s.Inv) (hb : s.blockSize ≤ 1024) {p : GranParams} {d : Nat} {run : GranRun}
    (hrun : run = granBlock s p s.blockSize s.gran d) :
    State.Inv { writeOutputs s run.outL run.outR with gran := run.gran, nanDraws := run.draws } := by
  have hframe := granBlock_frame s p s.blockSize s.gran d
  rw [← hrun] at hframe
  obtain ⟨hpool, hframes, hchannels, hl, hr⟩ := hframe
  exact
    { h with
      arena := wf_writeOutputs s _ _ h.arena (hl.trans_le hb) (hr.trans_le hb)
      gran :=
        { pool := hpool.trans h.gran.pool
          channels := hchannels.trans_le h.gran.channels
          source := (congrArg₂ (· * ·) hframes hchannels).trans_le h.gran.source }
      loadedSrc := fun hf => ⟨(h.loadedSrc hf).1.trans_eq hframes.symm, (h.loadedSrc hf).2.trans_eq hchannels.symm⟩ }

/-- SPEC_PROCESS (45_spectral.md R217). -/
theorem specProcess_inv (h : s.Inv) (hb : s.blockSize ≤ 1024) {p : SpecParams} {fa : Word} {d : Nat} {run : SpecRun}
    (hrun : run = specBlock s.numerics p (inputBlock s) (unfrozen fa s.spec) d) :
    State.Inv { writeOutputs s run.outL run.outR with spec := run.spec, nanDraws := run.draws } := by
  have hspec : run.spec.Inv := hrun ▸ specBlock_inv _ _ _ (unfrozen_inv h.spec fa) _
  have hlen : run.outL.length = s.blockSize ∧ run.outR.length = s.blockSize := by simp [hrun]
  exact
    { h with
      arena := wf_writeOutputs s _ _ h.arena (hlen.1.trans_le hb) (hlen.2.trans_le hb)
      spec := hspec }

/-- Every command keeps the invariant. -/
theorem CommandEffect.keeps_inv (he : CommandEffect s i t) (h : s.Inv) : t.Inv := by
  cases he with
  | failed => exact { h with }
  | wrote _ r0 r1 m n hm => exact { h with arena := hm h.arena }
  | init hr hb => exact { initialised_inv h hr hb with }
  | cleanup => exact { h with config := nofun, loadedIr := nofun, loadedSrc := nofun }
  | convLoadIr b r0 r1 n hc => exact { h with conv := hc, loadedIr := of_decide_eq_true }
  | convProcess hl hb hrun => exact { convProcess_inv h hl hb hrun with }
  | convReset => exact { h with conv := convClearHistory_inv h.conv.parts h.conv.irSpec }
  | @granLoadSource b r0 r1 f ch hc hf =>
    exact
      { h with
        gran := { pool := (silenced_length _).trans h.gran.pool, channels := show ch ≤ 2 by omega, source := hf }
        loadedSrc := fun hl => ⟨of_decide_eq_true hl, show 0 < ch by omega⟩ }
  | granProcess hb hrun => exact { granProcess_inv h hb hrun with }
  | granReset => exact { h with gran := { h.gran with pool := (silenced_length _).trans h.gran.pool } }
  | specProcess hb hrun => exact { specProcess_inv h hb hrun with }
  | specReset => exact { h with spec := specClear_inv }

/-! ### The invariant, event by event -/

/-- The state after power-on reset (70_reset_and_hazards.md R261). -/
theorem State.reset_inv : State.reset.Inv where
  arena := Arena.wf_nil
  config := nofun
  conv := Conv.zero_inv
  loadedIr := nofun
  gran := Gran.zero_inv
  loadedSrc := nofun
  spec := specClear_inv

theorem State.regWrite_inv (h : s.Inv) (off : Nat) (w : Word) : (s.regWrite off w).Inv := by
  obtain ⟨a0, a1, a2, a3, a4, r, he⟩ := s.regWrite_eq off w
  rw [he]
  exact { h with gran := { h.gran with } }

/-- Every event keeps the invariant. -/
theorem HostEffect.keeps_inv (he : HostEffect s t) (h : s.Inv) : t.Inv := by
  cases he with
  | observed w => exact { h with }
  | illegal w => exact { h with }
  | command w i hx => exact (exec_effect hx).keeps_inv { h with }
  | regWrite off w => exact State.regWrite_inv h off w
  | arenaWrite w ha hd => exact { h with arena := Arena.wf_writeWord h.arena (fun _ h1 h2 => decoded_word hd ha h1 h2) w }
  | powerOn => exact { State.reset_inv with }

end

/-- Settles O58: the invariant goes through each event's effect and, for a command word, through the command's. -/
theorem stepKeepsTheInvariant : Obligations.StepKeepsTheInvariant := by
  intro s t h hs
  rcases step_effect hs with rfl | ⟨rest, he⟩
  · exact h
  · exact he.keeps_inv { h with }

/-- Settles O57. -/
theorem invariantHoldsAtReset : Obligations.InvariantHoldsAtReset := State.reset_inv

section
variable {s t : State} {i : Instr}

/-! ### The grain pool (10_state.md R41, 44_granular.md R206) -/

/-- A pool with no active grain is live. -/
theorem Gran.live_of_inactive {g : Gran} (h : ∀ x ∈ g.grains, x.active = false) : g.Live :=
  fun x hx ha => absurd ha (by simp [h x hx])

theorem Gran.zero_live : Gran.zero.Live :=
  Gran.live_of_inactive (fun x hx => by rw [List.eq_of_mem_replicate hx]; rfl)

/-- No command leaves an active grain past its end: a process command ends every sample with the grains' advance, and
every other command keeps the pool or deactivates it. -/
theorem CommandEffect.keeps_live (he : CommandEffect s i t) (h : s.gran.Live) : t.gran.Live := by
  cases he with
  | init => exact Gran.zero_live
  | granLoadSource => exact Gran.live_of_inactive (fun _ => silenced_inactive)
  | granProcess hb hrun =>
    subst hrun
    exact granBlock_live s _ _ h _
  | granReset => exact Gran.live_of_inactive (fun _ => silenced_inactive)
  | _ => exact h

theorem HostEffect.keeps_live (he : HostEffect s t) (h : s.gran.Live) : t.gran.Live := by
  cases he with
  | observed | illegal | arenaWrite => exact h
  | command w i hx => exact (exec_effect hx).keeps_live h
  | regWrite off w =>
    obtain ⟨a0, a1, a2, a3, a4, r, he⟩ := s.regWrite_eq off w
    rw [he]
    exact h
  | powerOn => exact Gran.zero_live

/-- At most GRAIN_POOL grains are active in a pool of that many records. -/
theorem Gran.Inv.activeCount_le {g : Gran} (h : g.Inv) : g.activeCount ≤ 100 :=
  calc g.activeCount
      _ ≤ g.grains.length := List.countP_le_length
      _ = 100 := h.pool

/-- A pool of at most 100 active grains is counted by GRAIN_ACTIVE without wrapping (R28). -/
theorem regRead_grainActive_toNat (h : s.gran.activeCount ≤ 100) :
    (s.regRead 0x30).toNat = s.gran.activeCount := by
  have hr : s.regRead 0x30 = BitVec.ofNat 32 s.gran.activeCount := rfl
  rw [hr, BitVec.toNat_ofNat]
  omega

end

/-- Settles O60: liveness of the grains is kept by each effect, and the bound is the pool's size in the invariant. -/
theorem grainPoolIsBounded : Obligations.GrainPoolIsBounded := by
  refine ⟨fun s t h hs => ?_, fun s t h hs => ?_⟩
  · rcases step_effect hs with rfl | ⟨rest, he⟩
    · exact h
    · exact he.keeps_live h
  · have hcount := (stepKeepsTheInvariant s t h hs).gran.activeCount_le
    exact ⟨hcount, regRead_grainActive_toNat hcount⟩

section
variable {s t : State} {i : Instr}

/-! ### What a command leaves alone -/

/-- No command writes CMD or an argument register (10_state.md R21, R23). -/
theorem CommandEffect.registers_eq (he : CommandEffect s i t) :
    t.cmd = s.cmd ∧ t.arg0 = s.arg0 ∧ t.arg1 = s.arg1 ∧ t.arg2 = s.arg2 ∧ t.arg3 = s.arg3 ∧ t.arg4 = s.arg4 := by
  cases he <;> exact ⟨rfl, rfl, rfl, rfl, rfl, rfl⟩

/-- No command writes what the model adds to the state, but for the count of draws (assumptions 1, 3, 4, 9). -/
theorem CommandEffect.world_eq (he : CommandEffect s i t) :
    t.pending = s.pending ∧ t.seen = s.seen ∧ t.powerCycles = s.powerCycles ∧ t.numerics = s.numerics := by
  cases he <;> exact ⟨rfl, rfl, rfl, rfl⟩

/-- Only a load sets TRUNC (10_state.md R22). -/
theorem CommandEffect.trunc_eq (he : CommandEffect s i t) (h1 : i ≠ .convLoadIr) (h2 : i ≠ .granLoadSource) :
    t.trunc = false := by
  cases he with
  | convLoadIr => exact absurd rfl h1
  | granLoadSource => exact absurd rfl h2
  | _ => rfl

/-- Only INIT writes the configuration (10_state.md R37). -/
theorem CommandEffect.config_eq (he : CommandEffect s i t) (h : i ≠ .init) :
    t.sampleRate = s.sampleRate ∧ t.blockSize = s.blockSize := by
  cases he with
  | init => exact absurd rfl h
  | _ => exact ⟨rfl, rfl⟩

theorem CommandEffect.ready_eq (he : CommandEffect s i t) (h1 : i ≠ .init) (h2 : i ≠ .cleanup) :
    t.ready = s.ready := by
  cases he with
  | init => exact absurd rfl h1
  | cleanup => exact absurd rfl h2
  | _ => rfl

theorem CommandEffect.irLoaded_eq (he : CommandEffect s i t) (h1 : i ≠ .init) (h2 : i ≠ .cleanup)
    (h3 : i ≠ .convLoadIr) : t.irLoaded = s.irLoaded := by
  cases he with
  | init => exact absurd rfl h1
  | cleanup => exact absurd rfl h2
  | convLoadIr => exact absurd rfl h3
  | _ => rfl

theorem CommandEffect.srcLoaded_eq (he : CommandEffect s i t) (h1 : i ≠ .init) (h2 : i ≠ .cleanup)
    (h3 : i ≠ .granLoadSource) : t.srcLoaded = s.srcLoaded := by
  cases he with
  | init => exact absurd rfl h1
  | cleanup => exact absurd rfl h2
  | granLoadSource => exact absurd rfl h3
  | _ => rfl

/-- Only INIT and its own commands write the convolution engine (20_memory.md R62). -/
theorem CommandEffect.conv_eq (he : CommandEffect s i t) (h1 : i ≠ .init) (h2 : i ≠ .convLoadIr)
    (h3 : i ≠ .convProcess) (h4 : i ≠ .convReset) : t.conv = s.conv := by
  cases he with
  | init => exact absurd rfl h1
  | convLoadIr => exact absurd rfl h2
  | convProcess => exact absurd rfl h3
  | convReset => exact absurd rfl h4
  | _ => rfl

/-- Only INIT and its own commands write the granular engine (20_memory.md R62). -/
theorem CommandEffect.gran_eq (he : CommandEffect s i t) (h1 : i ≠ .init) (h2 : i ≠ .granLoadSource)
    (h3 : i ≠ .granProcess) (h4 : i ≠ .granReset) : t.gran = s.gran := by
  cases he with
  | init => exact absurd rfl h1
  | granLoadSource => exact absurd rfl h2
  | granProcess => exact absurd rfl h3
  | granReset => exact absurd rfl h4
  | _ => rfl

/-- Only INIT and its own commands write the spectral engine (20_memory.md R62). -/
theorem CommandEffect.spec_eq (he : CommandEffect s i t) (h1 : i ≠ .init) (h2 : i ≠ .specProcess)
    (h3 : i ≠ .specReset) : t.spec = s.spec := by
  cases he with
  | init => exact absurd rfl h1
  | specProcess => exact absurd rfl h2
  | specReset => exact absurd rfl h3
  | _ => rfl

end

/-- Settles O9, field by field of the command's effect. -/
theorem onlyItsCommandsWriteAnEngine : Obligations.OnlyItsCommandsWriteAnEngine := by
  intro i s t hx
  have he := exec_effect hx
  obtain ⟨hcmd, h0, h1, h2, h3, h4⟩ := he.registers_eq
  obtain ⟨hpending, hseen, hcycles, hnumerics⟩ := he.world_eq
  exact ⟨hcmd, h0, h1, h2, h3, h4, hpending, hseen, hcycles, hnumerics, he.trunc_eq, he.config_eq, he.ready_eq,
    he.irLoaded_eq, he.srcLoaded_eq, he.conv_eq, he.gran_eq, he.spec_eq⟩

/-! ### The step on a CMD write, and the register space (10_state.md R20 to R33) -/

/-- Settles O5, by the step on a CMD write and the run of a decoded word. -/
theorem stepRunsTheDecodedCommand : Obligations.StepRunsTheDecodedCommand := by
  refine ⟨fun s w rest hp => ⟨step_cmdWrite hp, fun i hd => ?_⟩, fun s => step_idle⟩
  exact (step_cmdWrite hp).trans (runCommand_of_decode hd _)

/-- Settles O47: a read answers the row of its offset, and 0 at an offset that has none. -/
theorem registerReads : Obligations.RegisterReads := by
  intro s off rest hp ha hb view
  have hstep := step_regRead hp ha hb
  have hrow : ∀ r ∈ view, (s.takeEvent rest).regRead r.1 = r.2 := by
    intro r hr
    simp only [view, List.mem_cons, List.not_mem_nil, or_false] at hr
    rcases hr with rfl | rfl | rfl | rfl | rfl | rfl | rfl | rfl | rfl | rfl | rfl | rfl | rfl | rfl | rfl | rfl |
      rfl | rfl | rfl <;> rfl
  refine ⟨fun r hr ho => ?_, fun hn => ?_⟩
  · rw [hstep, ho, hrow r hr]
    rfl
  · have hzero : (s.takeEvent rest).regRead off.toNat = 0#32 := by
      simp only [view, List.forall_mem_cons] at hn
      simp [State.regRead, hn]
    rw [hstep, hzero]
    rfl

/-- Settles O49: a write stores the word in the row of its offset, and is ignored at an offset that has none. -/
theorem registerWrites : Obligations.RegisterWrites := by
  intro s off w rest hp ha hb hc written
  have hstep := step_regWrite hp ha hb hc
  have hrow : ∀ r ∈ written, (s.takeEvent rest).regWrite r.1 w = r.2 := by
    intro r hr
    simp only [written, List.mem_cons, List.not_mem_nil, or_false] at hr
    rcases hr with rfl | rfl | rfl | rfl | rfl | rfl <;> rfl
  refine ⟨fun r hr ho => ?_, fun hn => ?_⟩
  · rw [hstep, ho, hrow r hr]
  · have hignored : (s.takeEvent rest).regWrite off.toNat w = s.takeEvent rest := by
      simp only [written, List.forall_mem_cons] at hn
      simp [State.regWrite, hn]
    rw [hstep, hignored]
    rfl

/-! ### The STATUS word (10_state.md R22) -/

/-- A flag placed above `n` bits is bit `n`. -/
theorem getLsbD_flagBit_append {n : Nat} (f : Bool) (lo : BitVec n) (k : Nat) :
    (flagBit f ++ lo).getLsbD k = if k < n then lo.getLsbD k else decide (k = n) && f := by
  rw [BitVec.getLsbD_append]
  split
  · rfl
  · rename_i h
    have hk : k - n = 0 ↔ k = n := by omega
    cases f <;> simp [flagBit, hk]

/-- STATUS, bit by bit. BUSY, bit 8, is a flag that is never set. -/
theorem State.status_getLsbD (s : State) (k : Nat) :
    s.status.getLsbD k =
      if k < 15 then
        if k < 14 then
          if k < 13 then
            if k < 12 then
              if k < 11 then
                if k < 10 then
                  if k < 9 then
                    if k < 8 then s.rc.byte.getLsbD k else false
                  else decide (k = 9) && s.ready
                else decide (k = 10) && s.irLoaded
              else decide (k = 11) && s.srcLoaded
            else decide (k = 12) && s.spec.left.frozen
          else decide (k = 13) && s.spec.right.frozen
        else decide (k = 14) && s.trunc
      else false := by
  have hlayout : s.status.getLsbD k = (0#17 ++ (flagBit s.trunc ++ (flagBit s.spec.right.frozen ++
      (flagBit s.spec.left.frozen ++ (flagBit s.srcLoaded ++ (flagBit s.irLoaded ++ (flagBit s.ready ++
      (flagBit false ++ s.rc.byte)))))))).getLsbD k := rfl
  rw [hlayout, BitVec.getLsbD_append]
  simp only [getLsbD_flagBit_append, BitVec.getLsbD_zero, Bool.and_false]

/-- Settles O48, from STATUS bit by bit. -/
theorem statusFields : Obligations.StatusFields := by
  refine ⟨fun s => ?_, rfl, rfl, rfl, rfl, rfl, rfl, rfl, rfl⟩
  have hrc : s.status.extractLsb' 0 8 = s.rc.byte := by
    apply BitVec.eq_of_getLsbD_eq
    intro k hk
    rw [BitVec.getLsbD_extractLsb', State.status_getLsbD]
    grind
  have htop : s.status.extractLsb' 15 17 = 0#17 := by
    apply BitVec.eq_of_getLsbD_eq
    intro k hk
    simp [BitVec.getLsbD_extractLsb', State.status_getLsbD]
  refine ⟨hrc, ?_, ?_, ?_, ?_, ?_, ?_, ?_, htop⟩
  all_goals
    rw [State.status_getLsbD]
    rfl

end Sys2Proof.Machine

/-! PROOFS. The statements on the memory (20_memory.md): who writes the arena, when a span is valid, the host's arena
accesses and the malformed ones, and the model's own stop at a block that leaves its region. -/

namespace Sys2Proof.Machine

/-! ### Bytes after a write (R61) -/

section
variable {s t : State}

/-- A state whose arena and power cycle are those of another one holds the same bytes. -/
theorem State.readByte_of_arena_eq (ha : t.arena = s.arena) (hp : t.powerCycles = s.powerCycles) (a : Nat) :
    t.readByte a = s.readByte a := by
  rw [State.readByte, State.readByte, ha, hp]

/-- A byte outside a written word is as before. -/
theorem State.readByte_writeWord_other (s : State) (w : Word) {off a : Nat} (h : a < off ∨ off + 4 ≤ a) :
    (s.writeWord off w).readByte a = s.readByte a :=
  Arena.byte_writeWord_other _ _ h w

/-- A word read after it was written. -/
theorem State.readWord_writeWord_self (s : State) (off : Nat) (w : Word) :
    (s.writeWord off w).readWord off = w :=
  Arena.word_writeWord_self _ _ off w

/-- The four bytes of a word read from the arena, the least significant at the lowest offset (R61). -/
theorem State.readWord_extract (s : State) (off : Nat) :
    (s.readWord off).extractLsb' 0 8 = s.readByte off ∧ (s.readWord off).extractLsb' 8 8 = s.readByte (off + 1) ∧
    (s.readWord off).extractLsb' 16 8 = s.readByte (off + 2) ∧
    (s.readWord off).extractLsb' 24 8 = s.readByte (off + 3) := by
  have hlayout : s.readWord off = s.readByte (off + 3) ++ (s.readByte (off + 2) ++ (s.readByte (off + 1) ++
    s.readByte off)) := rfl
  rw [hlayout]
  refine ⟨?_, ?_, ?_, ?_⟩
  all_goals
    apply BitVec.eq_of_getLsbD_eq
    intro k hk
    simp only [BitVec.getLsbD_extractLsb', BitVec.getLsbD_append]
    grind

end

/-! ### Who writes the arena (R65) -/

section
variable {s t : State} {i : Instr}

/-- A failing command writes no byte (60_exceptions.md R244). -/
theorem FailedWith.readByte_eq {codes : List ResultCode} (h : FailedWith s t codes) (a : Nat) :
    t.readByte a = s.readByte a := by
  obtain ⟨c, -, rfl⟩ := h
  rfl

/-- A command that needs readiness alone leaves the arena alone when its completed state does. -/
theorem ready_arena_eq {u : State} (hu : u.arena = s.arena) (h : whenReady s (.next u) = .next t) :
    t.arena = s.arena := by
  rcases ready_done h with ⟨c, -, rfl⟩ | ⟨-, h⟩
  · rfl
  · injection h with h
    exact h ▸ hu

/-- The same for a command that also checks an argument. -/
theorem checked_arena_eq {ok : Bool} {code : ResultCode} {u : State} (hu : u.arena = s.arena)
    (h : whenReady s (require ok code s (.next u)) = .next t) : t.arena = s.arena := by
  rcases checked_done h with ⟨c, -, rfl⟩ | ⟨-, -, h⟩
  · rfl
  · injection h with h
    exact h ▸ hu

/-- The commands that write no byte of the arena: the queries, the loads and the resets. -/
theorem exec_arena_eq (hi : i ∈ [Instr.nop, .cleanup, .getInputBuffer, .getOutputBuffer, .bufFindPeak, .envLookup,
    .convLoadIr, .convReset, .granLoadSource, .granReset, .specReset]) (h : exec i s = .next t) :
    t.arena = s.arena := by
  cases i with
  | nop | cleanup =>
    injection h with h
    exact h ▸ rfl
  | getInputBuffer | getOutputBuffer | bufFindPeak | convLoadIr | granLoadSource => exact checked_arena_eq (by rfl) h
  | envLookup | convReset | granReset | specReset => exact ready_arena_eq (by rfl) h
  | _ => simp at hi

/-- INIT writes below SRC alone (41_system.md R139). -/
theorem execInit_readByte_high (h : execInit s = .next t) {a : Nat} (ha : ioEnd ≤ a) :
    t.readByte a = s.readByte a := by
  rcases execInit_cases h with h | ⟨-, -, rfl⟩
  · exact h.readByte_eq a
  · exact Arena.byte_clearIo_high _ ha _

/-- A completed process command writes its two output blocks, whatever becomes of its engine and of the draws (R64). -/
theorem wroteOutputs_finish {outL outR : List Word} (hb : s.blockSize ≤ 1024) (hl : outL.length = s.blockSize)
    (hr : outR.length = s.blockSize) (c : Conv) (g : Gran) (sp : Spec) (d : Nat) :
    WroteOutputs s
      (finish 0#32 0#32 { writeOutputs s outL outR with conv := c, gran := g, spec := sp, nanDraws := d })
      (fun k => outL.getD k 0#32) (fun k => outR.getD k 0#32) :=
  wroteOutputs_of hb hl hr rfl rfl

/-- A process command fails without being ready, or writes its two output blocks (R64). -/
theorem exec_process_outputs (hi : i ∈ [Instr.convProcess, .granProcess, .specProcess]) (h : exec i s = .next t) :
    FailedWith s t [.notInit] ∨ ∃ left right, WroteOutputs s t left right := by
  cases i with
  | convProcess =>
    refine (execConvProcess_cases h).imp_right ?_
    rintro ⟨-, hb, rfl⟩
    split
    · exact ⟨_, _, wroteOutputs_finish hb (by simp) (by simp) _ _ _ _⟩
    · exact ⟨_, _, wroteOutputs_finish hb (by simp [State.block]) (by simp [State.block]) _ _ _ _⟩
  | granProcess =>
    refine (execGranProcess_cases h).imp_right ?_
    rintro ⟨-, hb, ⟨-, rfl⟩ | ⟨-, rfl⟩⟩
    · obtain ⟨-, -, -, hl, hr⟩ := granBlock_frame s (granParams s) s.blockSize s.gran s.nanDraws
      exact ⟨_, _, wroteOutputs_finish hb hl hr _ _ _ _⟩
    · exact ⟨_, _, wroteOutputs_finish hb (by simp) (by simp) _ _ _ _⟩
  | specProcess =>
    refine (execSpecProcess_cases h).imp_right ?_
    rintro ⟨-, hb, rfl⟩
    exact ⟨_, _, wroteOutputs_finish hb (by simp) (by simp) _ _ _ _⟩
  | _ => simp at hi

end

/-- Settles O10: the commands that keep the arena, INIT's zeroing below SRC, and the two output blocks. -/
theorem onlyItsCommandsWriteTheArena : Obligations.OnlyItsCommandsWriteTheArena := by
  intro i s t h
  refine ⟨fun hi a => ?_, ?_, fun hi a hl hr => ?_⟩
  · obtain ⟨-, -, hp, -⟩ := (exec_effect h).world_eq
    exact State.readByte_of_arena_eq (exec_arena_eq hi h) hp a
  · rintro rfl a ha
    exact execInit_readByte_high h ha
  · rcases exec_process_outputs hi h with hf | ⟨left, right, ho⟩
    · exact hf.readByte_eq a
    · exact ho.bytes a hl hr

/-! ### Spans (R70, 42_buffer_primitives.md R151, R152) -/

/-- The rows of the arena map, as base and end (R63). -/
theorem regions_bounds : regions.map (fun r => (r.base, r.stop)) =
    [(0x00000000, 0x00001000), (0x00001000, 0x00002000), (0x00002000, 0x00003000), (0x00003000, 0x00004000),
     (0x00004000, 0x00008000), (0x00008000, 0x00365540), (0x00366000, 0x00514AA0)] := by
  decide

/-- Two spans overlap exactly when they share a byte: if they do, the higher of their offsets is one. -/
theorem Span.overlaps_iff (a b : Span) :
    a.overlaps b = true ↔
      ∃ byte, (a.off ≤ byte ∧ byte < a.off + 4 * a.n) ∧ b.off ≤ byte ∧ byte < b.off + 4 * b.n := by
  simp only [Span.overlaps, Bool.and_eq_true, decide_eq_true_eq]
  simp only [Span.stop]
  constructor
  · intro h
    exact ⟨max a.off b.off, by omega, by omega⟩
  · rintro ⟨byte, ha, hb⟩
    omega

/-- The spans of BUF_INTERLEAVE are accepted exactly as R151 and R152 say. -/
theorem interleaveOk_iff (dst srcL srcR : Span) :
    interleaveOk dst srcL srcR = true ↔
      dst.valid = true ∧ srcL.valid = true ∧ srcR.valid = true ∧ dst.overlaps srcL = false ∧
        dst.overlaps srcR = false := by
  simp [interleaveOk, and_assoc]

/-- The spans of BUF_DEINTERLEAVE are accepted exactly as R151 and R152 say. -/
theorem deinterleaveOk_iff (dstL dstR src : Span) :
    deinterleaveOk dstL dstR src = true ↔
      dstL.valid = true ∧ src.valid = true ∧ dstR.valid = true ∧ src.overlaps dstL = false ∧
        src.overlaps dstR = false ∧ dstL.overlaps dstR = false := by
  simp [deinterleaveOk, and_assoc]

/-- Settles O15: validity over the bounds of the regions, and each check by its own equivalence. -/
theorem spanValidity : Obligations.SpanValidity := by
  refine ⟨fun off n => ?_, Span.overlaps_iff, spanPairOk_iff, interleaveOk_iff, deinterleaveOk_iff⟩
  rw [Span.valid_iff, ← regions_bounds]
  simp only [List.mem_map, Span.stop, exists_exists_and_eq_and]

/-! ### The host's arena accesses (R66) -/

section
variable {s : State} {run : Result} {off w : Word} {rest : List HostEvent}

/-- An arena access that has a meaning is made (R66). -/
theorem atArena_accepts (ha : off.toNat % 4 = 0) (hd : decoded off.toNat = true) : atArena off run = run := by
  simp [atArena, ha, hd]

theorem step_arenaWrite (h : s.pending = .arenaWrite off w :: rest) (ha : off.toNat % 4 = 0)
    (hd : decoded off.toNat = true) : step s = .next ((s.takeEvent rest).writeWord off.toNat w) := by
  rw [step_pending h, hostStep, atArena_accepts ha hd]

theorem step_arenaRead (h : s.pending = .arenaRead off :: rest) (ha : off.toNat % 4 = 0)
    (hd : decoded off.toNat = true) :
    step s = .next ((s.takeEvent rest).observe ((s.takeEvent rest).readWord off.toNat)) := by
  rw [step_pending h, hostStep, atArena_accepts ha hd]

end

/-- Settles O50: the written word reads back, so its bytes are the written ones, and a read records its word. -/
theorem arenaAccesses : Obligations.ArenaAccesses := by
  intro s off rest ha hd
  refine ⟨fun w hp => ?_, fun hp => step_arenaRead hp ha hd⟩
  have hword := (s.takeEvent rest).readWord_writeWord_self off.toNat w
  obtain ⟨h0, h1, h2, h3⟩ := ((s.takeEvent rest).writeWord off.toNat w).readWord_extract off.toNat
  rw [hword] at h0 h1 h2 h3
  exact ⟨_, step_arenaWrite hp ha hd, rfl, hword, h0.symm, h1.symm, h2.symm, h3.symm,
    fun _ h => (s.takeEvent rest).readByte_writeWord_other w h⟩

/-! ### Malformed host accesses (R66, R67) -/

/-- An outcome that is no refusal. -/
def NotRefused (o : Result) : Prop := ∀ r, o ≠ .refused r

section
variable {s : State} {run : Result} {ok : Bool} {code : ResultCode} {sp : Span} {off w : Word}

theorem notRefused_next (s : State) : NotRefused (.next s) := nofun

theorem whenReady_notRefused (h : NotRefused run) : NotRefused (whenReady s run) := by
  unfold whenReady
  split
  · exact h
  · exact notRefused_next _

theorem require_notRefused (h : NotRefused run) : NotRefused (require ok code s run) := by
  unfold require
  split
  · exact h
  · exact notRefused_next _

/-- An access outside every region is a fault, not a refusal (assumption 11). -/
theorem requireDecoded_notRefused (h : NotRefused run) : NotRefused (requireDecoded sp run) := by
  unfold requireDecoded
  split
  · exact h
  · nofun

/-- No command is refused. -/
theorem exec_notRefused (i : Instr) (s : State) : NotRefused (exec i s) := by
  cases i with
  | nop | cleanup => exact notRefused_next _
  | init => exact require_notRefused (require_notRefused (notRefused_next _))
  | envLookup | convReset | granReset | specReset => exact whenReady_notRefused (notRefused_next _)
  | convProcess | specProcess => exact whenReady_notRefused (requireDecoded_notRefused (notRefused_next _))
  | granProcess =>
    refine whenReady_notRefused (requireDecoded_notRefused ?_)
    split
    · exact requireDecoded_notRefused (notRefused_next _)
    · exact notRefused_next _
  | _ => exact whenReady_notRefused (require_notRefused (notRefused_next _))

theorem runCommand_notRefused (w : Word) (s : State) : NotRefused (runCommand w s) := by
  unfold runCommand
  split
  · exact exec_notRefused _ _
  · exact notRefused_next _

/-- A register access is refused exactly when it is misaligned or beyond the register space (R67). -/
theorem atRegister_refused_iff (h : NotRefused run) :
    (∃ r, atRegister off run = .refused r) ↔ ¬ (off.toNat % 4 = 0 ∧ off.toNat < 0x100) := by
  by_cases hm : off.toNat % 4 = 0 ∧ off.toNat < 0x100
  · rw [atRegister_accepts hm.1 hm.2]
    exact iff_of_false (fun ⟨r, hr⟩ => h r hr) (not_not_intro hm)
  · refine iff_of_true ?_ hm
    unfold atRegister
    split
    · exact ⟨_, rfl⟩
    · rw [if_pos (by omega)]
      exact ⟨_, rfl⟩

/-- An arena access is refused exactly when it is misaligned or not decoded (R66). -/
theorem atArena_refused_iff (h : NotRefused run) :
    (∃ r, atArena off run = .refused r) ↔ ¬ (off.toNat % 4 = 0 ∧ decoded off.toNat = true) := by
  by_cases hm : off.toNat % 4 = 0 ∧ decoded off.toNat = true
  · rw [atArena_accepts hm.1 hm.2]
    exact iff_of_false (fun ⟨r, hr⟩ => h r hr) (not_not_intro hm)
  · refine iff_of_true ?_ hm
    unfold atArena
    split
    · exact ⟨_, rfl⟩
    · rename_i ha
      have hd : decoded off.toNat = false := by simpa [Decidable.of_not_not ha] using hm
      rw [if_pos (by simp [hd])]
      exact ⟨_, rfl⟩

/-- An event is refused exactly when the spec gives it no meaning. -/
theorem hostStep_refused_iff (e : HostEvent) (s : State) : (∃ r, hostStep e s = .refused r) ↔ e.legal = false := by
  cases e with
  | regRead off =>
    exact (atRegister_refused_iff (notRefused_next _)).trans (by simp [HostEvent.legal])
  | regWrite off w =>
    have hrun : NotRefused (if off.toNat = offCmd then runCommand w s else .next (s.regWrite off.toNat w)) := by
      split
      · exact runCommand_notRefused w s
      · exact notRefused_next _
    exact (atRegister_refused_iff hrun).trans (by simp [HostEvent.legal])
  | arenaRead off =>
    exact (atArena_refused_iff (notRefused_next _)).trans (by simp [HostEvent.legal])
  | arenaWrite off w =>
    exact (atArena_refused_iff (notRefused_next _)).trans (by simp [HostEvent.legal])
  | otherWidth space off bits => exact iff_of_true ⟨_, rfl⟩ rfl
  | powerOn => exact iff_of_false (fun ⟨r, hr⟩ => notRefused_next _ r hr) (by decide)

end

/-- Settles O51: a step on a pending event is refused exactly as the event is. -/
theorem malformedHostAccessesAreRefused : Obligations.MalformedHostAccessesAreRefused := by
  intro s e rest hp
  rw [step_pending hp]
  exact (hostStep_refused_iff e _).symm

/-! ### Blocks beyond their region (assumption 11) -/

section
variable {s : State} {run : Result} {sp : Span}

theorem requireDecoded_false (h : sp.valid = false) : requireDecoded sp run = .fault (.undecoded sp.off) := by
  simp [requireDecoded, h]

/-- A block longer than OUT_L stops a process command. -/
theorem requireBlocks_faults (hb : 1024 < s.blockSize) : requireBlocks s run = .fault (.undecoded 0x2000) := by
  have hv : (s.block regionOutL).valid = false :=
    eq_false_of_ne_true (fun hv => absurd ((block_valid_iff s).1 hv) (Nat.not_le.2 hb))
  rw [requireBlocks, requireDecoded_false hv]
  rfl

/-- A recorded source longer than SRC stops GRAN_PROCESS. -/
theorem requireSource_faults (hf : 882000 < s.gran.srcFrames * s.gran.srcChannels) :
    requireDecoded s.sourceSpan run = .fault (.undecoded 0x8000) := by
  have hv : s.sourceSpan.valid = false :=
    eq_false_of_ne_true (fun hv => absurd ((sourceSpan_valid_iff s).1 hv) (Nat.not_le.2 hf))
  rw [requireDecoded_false hv]
  rfl

end

/-- Settles O46: each process command checks its block first, and GRAN_PROCESS then its source. -/
theorem blocksBeyondTheirRegionFault : Obligations.BlocksBeyondTheirRegionFault := by
  intro s hready
  refine ⟨fun hb i hi => ?_, fun hb hl hf => ?_⟩
  · cases i with
    | convProcess => rw [exec_convProcess, execConvProcess, whenReady_true hready, requireBlocks_faults hb]
    | granProcess => rw [exec_granProcess, execGranProcess, whenReady_true hready, requireBlocks_faults hb]
    | specProcess => rw [exec_specProcess, execSpecProcess, whenReady_true hready, requireBlocks_faults hb]
    | _ => simp at hi
  · rw [exec_granProcess, execGranProcess, whenReady_true hready, requireBlocks,
      requireDecoded_true ((block_valid_iff s).2 hb), if_pos hl, requireSource_faults hf]

end Sys2Proof.Machine

/-! PROOFS. The statements on the encoding (30_encoding.md): which words are commands, and what a word written to CMD
runs. -/

namespace Sys2Proof.Machine

open Sys2Proof.Laws

section
variable {w : Word} {op : BitVec 8} {i : Instr}

/-! ### The fields of a word (R85) -/

/-- A word is its two fields. -/
theorem rsvOf_append_opcOf (w : Word) : rsvOf w ++ opcOf w = w := by
  unfold rsvOf opcOf
  rw [BitVec.extractLsb'_append_extractLsb'_eq_extractLsb' (by rfl), BitVec.extractLsb'_eq_self]

theorem encodingLaw (i : Instr) : EncodingLaw.Statement i := by
  cases i
  exacts [EncodingLaw.nop, EncodingLaw.init, EncodingLaw.cleanup, EncodingLaw.getInputBuffer,
    EncodingLaw.getOutputBuffer, EncodingLaw.bufScale, EncodingLaw.bufAdd, EncodingLaw.bufMix, EncodingLaw.bufCopy,
    EncodingLaw.bufClear, EncodingLaw.bufInterleave, EncodingLaw.bufDeinterleave, EncodingLaw.bufGainRamp,
    EncodingLaw.bufSoftClip, EncodingLaw.bufHardClip, EncodingLaw.bufDcRemove, EncodingLaw.bufFindPeak,
    EncodingLaw.envLookup, EncodingLaw.convLoadIr, EncodingLaw.convProcess, EncodingLaw.convReset,
    EncodingLaw.granLoadSource, EncodingLaw.granProcess, EncodingLaw.granReset, EncodingLaw.specProcess,
    EncodingLaw.specReset]

/-- A command's word is the one with RSV zero and the command's OPC. -/
theorem eq_encode_iff : w = encode i ↔ rsvOf w = 0#24 ∧ opcOf w = opcodeOf i := by
  obtain ⟨-, hopc, hrsv, -⟩ := encodingLaw i
  constructor
  · rintro rfl
    exact ⟨hrsv, hopc⟩
  · rintro ⟨hr, ho⟩
    calc w = rsvOf w ++ opcOf w := (rsvOf_append_opcOf w).symm
      _ = encode i := by rw [hr, ho, encode]

/-! ### The opcode map (R88) -/

/-- The map holds the OPC of each command and nothing else. -/
theorem mem_opcodeMap_iff : (op, i) ∈ opcodeMap ↔ op = opcodeOf i := by
  have hrows : ∀ row ∈ opcodeMap, row.1 = opcodeOf row.2 := by decide
  constructor
  · exact hrows (op, i)
  · rintro rfl
    cases i <;> decide

/-- The row found for an OPC is the row of the command that has it. -/
theorem opcodeOf_of_lookupOpcode (h : lookupOpcode op = some i) : op = opcodeOf i := by
  obtain ⟨⟨op', j⟩, hfind, rfl⟩ := Option.map_eq_some_iff.1 h
  have hkey : op' = op := by simpa using List.find?_some hfind
  exact hkey ▸ mem_opcodeMap_iff.1 (List.mem_of_find?_eq_some hfind)

/-! ### What a word decodes to (R86) -/

theorem decode_encode (i : Instr) : decode (encode i) = .ok i := by
  obtain ⟨-, -, -, hdecode⟩ := encodingLaw i
  exact hdecode

theorem decode_reserved (h : rsvOf w ≠ 0#24) : decode w = .error .reservedBits := by
  rw [decode, if_neg h]

theorem decode_unassigned (hr : rsvOf w = 0#24) (ho : ∀ i, opcOf w ≠ opcodeOf i) :
    decode w = .error .unassignedOpcode := by
  have hnone : lookupOpcode (opcOf w) = none :=
    Option.eq_none_iff_forall_ne_some.2 fun i h => ho i (opcodeOf_of_lookupOpcode h)
  rw [decode, if_pos hr, hnone]

/-- Every word is reserved, unassigned or the word of a command. -/
theorem decode_eq_ok_iff : decode w = .ok i ↔ w = encode i := by
  constructor
  · intro h
    by_cases hr : rsvOf w = 0#24
    · by_cases ho : ∃ j, opcOf w = opcodeOf j
      · obtain ⟨j, hj⟩ := ho
        have hw : w = encode j := eq_encode_iff.2 ⟨hr, hj⟩
        rw [hw, decode_encode] at h
        injection h with hji
        rw [hw, hji]
      · rw [decode_unassigned hr (not_exists.1 ho)] at h
        cases h
    · rw [decode_reserved hr] at h
      cases h
  · rintro rfl
    exact decode_encode i

/-- A word that is no command ends with ERR_ILLEGAL_CMD. -/
theorem runCommand_of_error {e : DecodeError} (h : decode w = .error e) (s : State) :
    runCommand w s = .next (raiseRC .illegalCmd { s with cmd := w }) := by
  unfold runCommand
  rw [h]

end

/-- Settles O2, by the three kinds of word. -/
theorem decodeAndEncodeAgree : Obligations.DecodeAndEncodeAgree :=
  fun _ _ => decode_eq_ok_iff

/-- Settles O1: the table is the opcode map with a zero RSV above each OPC. -/
theorem opcodeMapIsExact : Obligations.OpcodeMapIsExact := by
  intro w i
  have htable : decode w = .ok i ↔ (w, i) ∈ opcodeMap.map (fun row => (0#24 ++ row.1, row.2)) := by
    rw [decode_eq_ok_iff, List.mem_map]
    constructor
    · rintro rfl
      exact ⟨(opcodeOf i, i), mem_opcodeMap_iff.2 rfl, rfl⟩
    · rintro ⟨⟨op, j⟩, hmem, hrow⟩
      obtain ⟨rfl, rfl⟩ := Prod.mk.inj hrow
      rw [mem_opcodeMap_iff.1 hmem, encode]
  exact htable

/-- Settles O4: a word with RSV set or no command's OPC does not decode, and any other is its command's word. -/
theorem commandWordRunsOrIsIllegal : Obligations.CommandWordRunsOrIsIllegal := by
  refine fun w s => ⟨fun h => ?_, fun i hr ho => ?_⟩
  · by_cases hr : rsvOf w = 0#24
    · have ho : ∀ i, opcOf w ≠ opcodeOf i := h.resolve_left (not_not_intro hr)
      exact runCommand_of_error (decode_unassigned hr ho) s
    · exact runCommand_of_error (decode_reserved hr) s
  · exact runCommand_of_decode (decode_eq_ok_iff.2 (eq_encode_iff.2 ⟨hr, ho⟩)) s

/-- Settles O3: five command words, two words with no command's OPC, and one with RSV set. -/
theorem sampleWordsDecode : Obligations.SampleWordsDecode :=
  ⟨decode_encode .init, decode_encode .bufGainRamp, decode_encode .convProcess, decode_encode .granProcess,
    decode_encode .specReset, decode_unassigned (by decide) (fun i => by cases i <;> decide),
    decode_unassigned (by decide) (fun i => by cases i <;> decide), decode_reserved (by decide)⟩

end Sys2Proof.Machine

/-! PROOFS. The statements on numbers (40_numerics.md): the drawing of NaN patterns, the parameter clamp, and that no
data is fatal (R108). -/

namespace Sys2Proof.Machine

/-! ### The patterns of NaNs (R107) -/

section
variable {w : Word}

/-- A pattern whose exponent bits and quiet bit are all set is a NaN. -/
theorem F32.isNaN_of_quiet_bits (h : ∀ k, 22 ≤ k → k < 31 → w.getLsbD k = true) : F32.isNaN w = true := by
  have hexpo : w.extractLsb' 23 8 = 0xFF#8 := by
    apply BitVec.eq_of_getLsbD_eq
    intro k hk
    rw [BitVec.getLsbD_extractLsb', h (23 + k) (by omega) (by omega), show 0xFF#8 = BitVec.allOnes 8 from rfl,
      BitVec.getLsbD_allOnes]
    simp [hk]
  have hfrac : F32.frac w ≠ 0 := by
    intro h0
    have hbit : (w.extractLsb' 0 23).getLsbD 22 = true := by
      rw [BitVec.getLsbD_extractLsb']
      simpa using h 22 (by omega) (by omega)
    rw [BitVec.eq_of_toNat_eq (y := 0#23) h0] at hbit
    exact absurd hbit (by decide)
  simp [F32.isNaN, F32.expo, hexpo, hfrac]

/-- Between the drawn sign and the drawn payload a drawn pattern has the exponent and the quiet bit set. -/
theorem F32.drawNaN_quiet_bits (n : Nat) {k : Nat} (hlo : 22 ≤ k) (hhi : k < 31) :
    (F32.drawNaN n).getLsbD k = true := by
  have hones : (0x1FF#9).getLsbD (k - 22) = true := by
    rw [show 0x1FF#9 = BitVec.allOnes 9 from rfl, BitVec.getLsbD_allOnes, decide_eq_true (by omega)]
  rw [F32.drawNaN, BitVec.getLsbD_append, if_pos hhi, BitVec.getLsbD_append, if_neg (Nat.not_lt.2 hlo), hones]

theorem F32.isNaN_drawNaN (n : Nat) : F32.isNaN (F32.drawNaN n) = true :=
  F32.isNaN_of_quiet_bits fun _ => F32.drawNaN_quiet_bits n

/-- A computed NaN is stored as the drawn pattern. -/
theorem F32.settle_of_nan (h : F32.isNaN w = true) (n : Nat) : F32.settle n w = F32.drawNaN n := by
  rw [F32.settle, if_pos h]

/-- Storing a value neither makes a NaN nor removes one. -/
theorem F32.isNaN_settle (n : Nat) (w : Word) : F32.isNaN (F32.settle n w) = F32.isNaN w := by
  cases h : F32.isNaN w with
  | true => rw [F32.settle_of_nan h, F32.isNaN_drawNaN]
  | false => rw [F32.settle_of_not_nan h, h]

/-- The i-th stored complex value is the i-th computed one with draw indices n + 2 i and n + 2 i + 1. -/
theorem C32.settleList_getD (n : Nat) (zs : List C32) (i : Nat) (d : C32) (h : i < zs.length) :
    (C32.settleList n zs).getD i d =
      ⟨F32.settle (n + 2 * i) (zs.getD i d).re, F32.settle (n + 2 * i + 1) (zs.getD i d).im⟩ := by
  induction zs generalizing n i with
  | nil => simp at h
  | cons z zs ih =>
    cases i with
    | zero => simp [C32.settleList]
    | succ i =>
      have hdraw : n + 2 * (i + 1) = n + 2 + 2 * i := by omega
      simpa [C32.settleList, hdraw] using ih (n + 2) i (by simpa using h)

end

/-- Settles O54: the set bits of a drawn pattern, and the element-by-element laws of the two lists. -/
theorem drawnPatternsAreQuietNaNs : Obligations.DrawnPatternsAreQuietNaNs :=
  ⟨fun n w => ⟨F32.isNaN_drawNaN n, F32.drawNaN_quiet_bits n (by omega) (by omega), F32.isNaN_settle n w,
      fun h => F32.settle_of_not_nan h n⟩,
    fun n ws => ⟨F32.settleList_length n ws, fun i h => F32.settleList_getD n ws i _ h⟩,
    fun n zs => ⟨C32.settleList_length n zs, fun i h => C32.settleList_getD n zs i _ h⟩⟩

/-! ### The parameter clamp (R109) -/

section
variable {a b c x lo hi nv : Word}

theorem F32.le_refl (h : F32.isNaN a = false) : F32.le a a = true :=
  (F32.le_iff a a).2 ⟨h, h, Int.le_refl _⟩

theorem F32.lt_eq_false_of_le (h : F32.le a b = true) : F32.lt b a = false := by
  obtain ⟨ha, hb, hv⟩ := (F32.le_iff a b).1 h
  exact (F32.lt_eq_false hb ha).2 hv

theorem F32.le_of_lt_eq_false (ha : F32.isNaN a = false) (hb : F32.isNaN b = false) (h : F32.lt b a = false) :
    F32.le a b = true :=
  (F32.le_iff a b).2 ⟨ha, hb, (F32.lt_eq_false hb ha).1 h⟩

theorem F32.le_of_lt (h : F32.lt a b = true) : F32.le a b = true := by
  obtain ⟨ha, hb, hv⟩ := (F32.lt_iff a b).1 h
  exact (F32.le_iff a b).2 ⟨ha, hb, Int.le_of_lt hv⟩

theorem F32.le_trans (h1 : F32.le a b = true) (h2 : F32.le b c = true) : F32.le a c = true := by
  obtain ⟨ha, -, hab⟩ := (F32.le_iff a b).1 h1
  obtain ⟨-, hc, hbc⟩ := (F32.le_iff b c).1 h2
  exact (F32.le_iff a c).2 ⟨ha, hc, Int.le_trans hab hbc⟩

theorem F32.clampP_of_nan (h : F32.isNaN x = true) : F32.clampP x lo hi nv = nv := by
  rw [F32.clampP, if_pos h]

theorem F32.clampP_below (h : F32.lt x lo = true) : F32.clampP x lo hi nv = lo := by
  obtain ⟨hx, -, -⟩ := (F32.lt_iff x lo).1 h
  simp [F32.clampP, hx, h]

theorem F32.clampP_above (hb : F32.le lo hi = true) (h : F32.lt hi x = true) : F32.clampP x lo hi nv = hi := by
  obtain ⟨-, hx, -⟩ := (F32.lt_iff hi x).1 h
  have hlo : F32.lt x lo = false := F32.lt_eq_false_of_le (F32.le_trans hb (F32.le_of_lt h))
  simp [F32.clampP, hx, hlo, h]

theorem F32.clampP_within (hlo : F32.le lo x = true) (hhi : F32.le x hi = true) : F32.clampP x lo hi nv = x := by
  obtain ⟨-, hx, -⟩ := (F32.le_iff lo x).1 hlo
  simp [F32.clampP, hx, F32.lt_eq_false_of_le hlo, F32.lt_eq_false_of_le hhi]

/-- The clamp of a number lies within the bounds: it is a bound, or a value that is beyond neither. -/
theorem F32.clampP_range (hb : F32.le lo hi = true) (hx : F32.isNaN x = false) :
    F32.le lo (F32.clampP x lo hi nv) = true ∧ F32.le (F32.clampP x lo hi nv) hi = true := by
  obtain ⟨hlo, hhi, -⟩ := (F32.le_iff lo hi).1 hb
  cases hbelow : F32.lt x lo with
  | true =>
    rw [F32.clampP_below hbelow]
    exact ⟨F32.le_refl hlo, hb⟩
  | false =>
    cases habove : F32.lt hi x with
    | true =>
      rw [F32.clampP_above hb habove]
      exact ⟨hb, F32.le_refl hhi⟩
    | false =>
      have h1 := F32.le_of_lt_eq_false hlo hx hbelow
      have h2 := F32.le_of_lt_eq_false hx hhi habove
      rw [F32.clampP_within h1 h2]
      exact ⟨h1, h2⟩

end

/-- Settles O56: one equation per case of the clamp, and its range. -/
theorem clampStaysInRange : Obligations.ClampStaysInRange :=
  fun _ _ _ _ hb =>
    ⟨F32.clampP_of_nan, F32.clampP_below, F32.clampP_above hb, F32.clampP_within, F32.clampP_range hb⟩

/-! ### Nothing is fatal (R108, 60_exceptions.md R247) -/

/-- An outcome that is a next state. -/
def Completes (o : Result) : Prop := ∃ t, o = .next t

section
variable {s : State} {run : Result} {ok : Bool} {code : ResultCode} {sp : Span} {off : Word}

theorem completes_next (s : State) : Completes (.next s) := ⟨s, rfl⟩

/-- The readiness check completes when the command does in a ready state. -/
theorem whenReady_completes (h : s.ready = true → Completes run) : Completes (whenReady s run) := by
  cases hr : s.ready with
  | true =>
    rw [whenReady_true hr]
    exact h hr
  | false =>
    rw [whenReady_false hr]
    exact completes_next _

theorem require_completes (h : Completes run) : Completes (require ok code s run) := by
  cases hok : ok with
  | true => rwa [require_true rfl]
  | false =>
    rw [require_false rfl]
    exact completes_next _

/-- The access check passes for a span inside one region (assumption 11). -/
theorem requireDecoded_completes (hv : sp.valid = true) (h : Completes run) : Completes (requireDecoded sp run) := by
  rwa [requireDecoded_true hv]

/-- A ready core's block fits its regions (10_state.md R37). -/
theorem State.Inv.requireBlocks_completes (hi : s.Inv) (hr : s.ready = true) (h : Completes run) :
    Completes (requireBlocks s run) := by
  obtain ⟨-, -, hb⟩ := hi.config hr
  exact requireDecoded_completes ((block_valid_iff s).2 hb) h

/-- Every command completes: its checks end with a result code, and the invariant fits the blocks and the source of the
process commands to their regions. -/
theorem State.Inv.exec_completes (hi : s.Inv) (i : Instr) : Completes (exec i s) := by
  cases i with
  | nop | cleanup => exact completes_next _
  | init => exact require_completes (require_completes (completes_next _))
  | envLookup | convReset | granReset | specReset => exact whenReady_completes fun _ => completes_next _
  | convProcess | specProcess =>
    exact whenReady_completes fun hr => hi.requireBlocks_completes hr (completes_next _)
  | granProcess =>
    refine whenReady_completes fun hr => hi.requireBlocks_completes hr ?_
    split
    · exact requireDecoded_completes ((sourceSpan_valid_iff s).2 hi.gran.source) (completes_next _)
    · exact completes_next _
  | _ => exact whenReady_completes fun _ => require_completes (completes_next _)

/-- Every word written to CMD completes, a command or not. -/
theorem State.Inv.runCommand_completes (hi : s.Inv) (w : Word) : Completes (runCommand w s) := by
  cases h : decode w with
  | ok i =>
    have hcmd : State.Inv { s with cmd := w } := { hi with }
    rw [runCommand_of_decode h]
    exact hcmd.exec_completes i
  | error e =>
    rw [runCommand_of_error h]
    exact completes_next _

/-- A register access that has a meaning completes when what it does completes (20_memory.md R67). -/
theorem atRegister_completes (hl : (decide (off.toNat % 4 = 0) && decide (off.toNat < 0x100)) = true)
    (h : Completes run) : Completes (atRegister off run) := by
  obtain ⟨ha, hb⟩ : off.toNat % 4 = 0 ∧ off.toNat < 0x100 := by simpa using hl
  rwa [atRegister_accepts ha hb]

/-- An arena access that has a meaning completes when what it does completes (20_memory.md R66). -/
theorem atArena_completes (hl : (decide (off.toNat % 4 = 0) && decoded off.toNat) = true) (h : Completes run) :
    Completes (atArena off run) := by
  obtain ⟨ha, hd⟩ : off.toNat % 4 = 0 ∧ decoded off.toNat = true := by simpa using hl
  rwa [atArena_accepts ha hd]

/-- Every event that the spec gives a meaning completes. -/
theorem State.Inv.hostStep_completes (hi : s.Inv) {e : HostEvent} (hl : e.legal = true) : Completes (hostStep e s) := by
  cases e with
  | regRead off => exact atRegister_completes hl (completes_next _)
  | regWrite off w =>
    refine atRegister_completes hl ?_
    split
    · exact hi.runCommand_completes w
    · exact completes_next _
  | arenaRead off | arenaWrite off w => exact atArena_completes hl (completes_next _)
  | otherWidth space off bits => cases hl
  | powerOn => exact completes_next _

end

/-- Settles O59: the step takes the event, which keeps the invariant, and the event completes. -/
theorem legalEventsAlwaysComplete : Obligations.LegalEventsAlwaysComplete := by
  intro s e rest hi hp hl
  have htake : (s.takeEvent rest).Inv := { hi with }
  rw [step_pending hp]
  exact htake.hostStep_completes hl

end Sys2Proof.Machine

/-! PROOFS. The statements on the system commands (41_system.md): readiness, NOP, INIT, CLEANUP and the block views, and
the silence of the first process command after INIT. -/

namespace Sys2Proof.Machine

/-! ### Readiness, NOP and CLEANUP (R136, R138, R141) -/

/-- Settles O6: the readiness check comes before anything else. -/
theorem commandsNeedReady : Obligations.CommandsNeedReady :=
  fun _ _ hnop hinit hcleanup hr => exec_notReady hnop hinit hcleanup hr

/-- While the engine is not ready the configuration registers read the defaults (10_state.md R25, R26). -/
theorem State.regRead_config_of_not_ready {s : State} (h : s.ready = false) :
    s.regRead 0x24 = Config.defaultSr ∧ s.regRead 0x28 = BitVec.ofNat 32 Config.defaultBs := by
  have hrate : s.regRead 0x24 = if s.ready then s.sampleRate else Config.defaultSr := rfl
  have hblock : s.regRead 0x28 =
      if s.ready then BitVec.ofNat 32 s.blockSize else BitVec.ofNat 32 Config.defaultBs := rfl
  simp [hrate, hblock, h]

/-- Settles O11: the state that CLEANUP leaves is not ready, so the configuration reads its defaults and the readiness
check fails. -/
theorem nopAndCleanupComplete : Obligations.NopAndCleanupComplete := by
  intro s
  obtain ⟨hrate, hblock⟩ := State.regRead_config_of_not_ready
    (s := finish 0#32 0#32 { s with ready := false, irLoaded := false, srcLoaded := false }) rfl
  exact ⟨rfl, _, rfl, rfl, hrate, hblock, fun _ hnop hinit hcleanup => exec_notReady hnop hinit hcleanup rfl⟩

/-! ### The views of the blocks (R142, R143) -/

section
variable {s : State} (r0 r1 : Region)

theorem bufferView_badChannel (hr : s.ready = true) (hc : 1 < s.arg0.toNat) :
    bufferView r0 r1 s = .next (raiseRC .badChannel s) := by
  have hch : decide (s.arg0.toNat < Config.nCh) = false := decide_eq_false (Nat.not_lt.2 hc)
  rw [bufferView, whenReady_true hr, require_false hch]

/-- Channel 0 answers the base of the first region, channel 1 that of the second. -/
theorem bufferView_completes (hr : s.ready = true) (hc : s.arg0.toNat ≤ 1) :
    bufferView r0 r1 s =
      .next (finish (if s.arg0.toNat = 0 then BitVec.ofNat 32 r0.base else BitVec.ofNat 32 r1.base)
        (BitVec.ofNat 32 s.blockSize) s) := by
  have hch : decide (s.arg0.toNat < Config.nCh) = true := decide_eq_true (Nat.lt_succ_of_le hc)
  rw [bufferView, whenReady_true hr, require_true hch, apply_ite (BitVec.ofNat 32)]

end

/-- Settles O14: both commands are one view, on the input and on the output regions. -/
theorem bufferViews : Obligations.BufferViews := by
  intro s
  refine ⟨fun hr => ?_, fun hr hc => ?_, fun hr hc => ⟨?_, ?_⟩⟩
  · exact List.forall_mem_cons.2 ⟨exec_notReady nofun nofun nofun hr,
      List.forall_mem_singleton.2 (exec_notReady nofun nofun nofun hr)⟩
  · exact List.forall_mem_cons.2 ⟨bufferView_badChannel regionInL regionInR hr hc,
      List.forall_mem_singleton.2 (bufferView_badChannel regionOutL regionOutR hr hc)⟩
  · exact bufferView_completes regionInL regionInR hr hc
  · exact bufferView_completes regionOutL regionOutR hr hc

/-! ### INIT (R139) -/

theorem rateOk_iff (w : Word) : rateOk w = true ↔ F32.le Config.srMin w = true ∧ F32.le w Config.srMax = true := by
  simp [rateOk]

section
variable {s : State}

theorem execInit_badRate (hr : rateOk s.arg0 = false) : execInit s = .next (raiseRC .badRate s) := by
  rw [execInit, require_false hr]

theorem execInit_badBlock (hr : rateOk s.arg0 = true) (hb : blockOk s.arg1 = false) :
    execInit s = .next (raiseRC .badBlock s) := by
  rw [execInit, require_true hr, require_false hb]

theorem execInit_completes (hr : rateOk s.arg0 = true) (hb : blockOk s.arg1 = true) :
    execInit s = .next (finish 0#32 0#32 (initialised s.arg0 s.arg1 s)) := by
  rw [execInit, require_true hr, require_true hb]

/-- INIT zeroes IN_L to WORK. -/
theorem initialised_readByte_low (sr bs : Word) {a : Nat} (ha : a < ioEnd) :
    (initialised sr bs s).readByte a = 0#8 :=
  Arena.byte_clearIo_low _ ha _

/-- INIT keeps SRC and IR. -/
theorem initialised_readByte_high (sr bs : Word) {a : Nat} (ha : ioEnd ≤ a) :
    (initialised sr bs s).readByte a = s.readByte a :=
  Arena.byte_clearIo_high _ ha _

end

/-- Settles O12, by the two checks in their order and the bytes of the state they lead to. -/
theorem initMeaning : Obligations.InitMeaning := by
  intro s
  refine ⟨fun hr => ?_, fun hlo hhi hb => ?_, fun hlo hhi hmin hmax => ?_⟩
  · exact execInit_badRate (eq_false_of_ne_true (mt (rateOk_iff _).1 hr))
  · exact execInit_badBlock ((rateOk_iff _).2 ⟨hlo, hhi⟩) (eq_false_of_ne_true (mt (blockOk_iff _).1 hb))
  · exact ⟨_, execInit_completes ((rateOk_iff _).2 ⟨hlo, hhi⟩) ((blockOk_iff _).2 ⟨hmin, hmax⟩), rfl,
      fun _ ha => initialised_readByte_low s.arg0 s.arg1 ha, fun _ ha => initialised_readByte_high s.arg0 s.arg1 ha⟩

/-! ### The ring of the spectral engine before the first frame (45_spectral.md R217) -/

/-- The engine after one sample that does not fill the hop. -/
def Spec.taken (sp : Spec) (x : Word × Word) : Spec :=
  { left := specPush sp.fill x.1 sp.left, right := specPush sp.fill x.2 sp.right, fill := sp.fill + 1 }

/-- A sample that does not fill the hop gives the words of the rings at the fill, and runs no frame. -/
theorem specBlock_cons_within_hop (cfg : Config.Numerics) (p : SpecParams) (x : Word × Word) (xs : List (Word × Word))
    {sp : Spec} (h : sp.fill + 1 ≠ Config.hs) (d : Nat) :
    specBlock cfg p (x :: xs) sp d =
      { specBlock cfg p xs (sp.taken x) d with
        outL := sp.left.outRing.getD sp.fill F32.zero :: (specBlock cfg p xs (sp.taken x) d).outL
        outR := sp.right.outRing.getD sp.fill F32.zero :: (specBlock cfg p xs (sp.taken x) d).outR } := by
  rw [specBlock, specEndSample, if_neg h]
  rfl

/-- Up to the end of the current hop a block's outputs are the words of the rings from the fill up. -/
theorem specBlock_getD_within_hop (cfg : Config.Numerics) (p : SpecParams) {xs : List (Word × Word)} {sp : Spec}
    (d : Nat) {k : Nat} (hk : k < xs.length) (hf : sp.fill + k < Config.hs) :
    (specBlock cfg p xs sp d).outL.getD k F32.zero = sp.left.outRing.getD (sp.fill + k) F32.zero ∧
    (specBlock cfg p xs sp d).outR.getD k F32.zero = sp.right.outRing.getD (sp.fill + k) F32.zero := by
  induction xs generalizing sp k with
  | nil => exact absurd hk (Nat.not_lt_zero k)
  | cons x xs ih =>
    cases k with
    | zero => exact ⟨rfl, rfl⟩
    | succ k =>
      have hindex : sp.fill + (k + 1) = (sp.taken x).fill + k := by
        simp only [Spec.taken]
        omega
      rw [specBlock_cons_within_hop _ _ _ _ (by omega), hindex]
      exact ih (Nat.lt_of_succ_lt_succ hk) (hindex ▸ hf)

/-- Clearing the freeze flags keeps the rings and the fill (R215). -/
theorem unfrozen_rings (fa : Word) (sp : Spec) :
    (unfrozen fa sp).left.outRing = sp.left.outRing ∧ (unfrozen fa sp).right.outRing = sp.right.outRing ∧
    (unfrozen fa sp).fill = sp.fill := by
  unfold unfrozen
  split <;> exact ⟨rfl, rfl, rfl⟩

/-- Every word of a cleared ring is +0.0 (R216). -/
theorem SpecChan.zero_outRing_getD (j : Nat) : SpecChan.zero.outRing.getD j F32.zero = F32.zero := by
  rw [SpecChan.zero, List.getD_eq_getElem?_getD]
  exact List.getElem?_getD_replicate_default_eq _ _ _

/-! ### The first process command after INIT (R140) -/

/-- A word of zero bytes is +0.0. -/
theorem State.readWord_of_zero_bytes {s : State} {off : Nat} (h : ∀ a, off ≤ a → a < off + 4 → s.readByte a = 0#8) :
    s.readWord off = F32.zero := by
  have hlayout : s.readWord off = s.readByte (off + 3) ++ (s.readByte (off + 2) ++ (s.readByte (off + 1) ++
    s.readByte off)) := rfl
  rw [hlayout, h off (by omega) (by omega), h (off + 1) (by omega) (by omega), h (off + 2) (by omega) (by omega),
    h (off + 3) (by omega) (by omega)]
  rfl

/-- What the first process command meets after a successful INIT (R139), whatever the argument registers hold. -/
structure State.Fresh (s : State) : Prop where
  ready : s.ready = true
  noIr : s.irLoaded = false
  noSrc : s.srcLoaded = false
  block : s.blockSize ≤ 1024
  spec : s.spec = specClear
  low : ∀ a, a < ioEnd → s.readByte a = 0#8

section
variable {s : State}

/-- A successful INIT leaves a fresh machine. -/
theorem execInit_fresh {t : State} (h : execInit s = .next t) (hok : t.rc = .ok) : t.Fresh := by
  rcases execInit_cases h with ⟨c, hc, rfl⟩ | ⟨-, hb, rfl⟩
  · simp only [raiseRC_rc] at hok
    simp [hok] at hc
  · obtain ⟨-, hmax⟩ := (blockOk_iff _).1 hb
    exact ⟨rfl, rfl, rfl, hmax, rfl, fun _ ha => initialised_readByte_low s.arg0 s.arg1 ha⟩

/-- The input block of a fresh machine is +0.0, as every word below SRC is. -/
theorem State.Fresh.readWord_low (h : s.Fresh) {off : Nat} (ho : off + 4 ≤ ioEnd) : s.readWord off = F32.zero :=
  State.readWord_of_zero_bytes (fun a _ ha => h.low a (by omega))

/-- A command completes and writes output blocks whose first `n` samples are +0.0. -/
def SilentFor (n : Nat) (i : Instr) (s : State) : Prop :=
  ∃ u left right, exec i s = .next u ∧ u.rc = .ok ∧ WroteOutputs s u left right ∧
    ∀ k, k < n → left k = F32.zero ∧ right k = F32.zero

/-- Without an IR the input passes through, which is +0.0 (43_convolution.md R179). -/
theorem State.Fresh.convProcess_silent (h : s.Fresh) : SilentFor s.blockSize .convProcess s := by
  refine ⟨_, _, _, execConvProcess_unloaded h.ready h.noIr h.block, rfl,
    wroteOutputs_finish h.block (by simp [State.block]) (by simp [State.block]) _ _ _ _, fun k hk => ?_⟩
  have hb := h.block
  constructor
  · rw [State.readSpan_getD _ _ _ _ hk]
    exact h.readWord_low (by simp only [State.block, regionInL, ioEnd]; omega)
  · rw [State.readSpan_getD _ _ _ _ hk]
    exact h.readWord_low (by simp only [State.block, regionInR, ioEnd]; omega)

/-- Without a source the outputs are silence (44_granular.md R204). -/
theorem State.Fresh.granProcess_silent (h : s.Fresh) : SilentFor s.blockSize .granProcess s :=
  ⟨_, _, _, execGranProcess_unloaded h.ready h.noSrc h.block, rfl,
    wroteOutputs_finish h.block List.length_replicate List.length_replicate _ _ _ _,
    fun _ hk => ⟨List.getD_replicate _ hk, List.getD_replicate _ hk⟩⟩

/-- Before its first frame the spectral engine moves out the words of a cleared ring (45_spectral.md R217). -/
theorem State.Fresh.specProcess_silent (h : s.Fresh) : SilentFor (min s.blockSize Config.hs) .specProcess s := by
  refine ⟨_, _, _, execSpecProcess_completes h.ready h.block, rfl,
    wroteOutputs_finish h.block (by simp) (by simp) _ _ _ _, fun k hk => ?_⟩
  obtain ⟨hblock, hhop⟩ := lt_min_iff.1 hk
  have hleft : s.spec.left = SpecChan.zero := congrArg Spec.left h.spec
  have hright : s.spec.right = SpecChan.zero := congrArg Spec.right h.spec
  have hzero : s.spec.fill = 0 := congrArg Spec.fill h.spec
  obtain ⟨hringL, hringR, hfill⟩ := unfrozen_rings (specParams s).freeze s.spec
  have hout := specBlock_getD_within_hop s.numerics (specParams s) (xs := inputBlock s)
    (sp := unfrozen (specParams s).freeze s.spec) s.nanDraws (by rwa [inputBlock_length])
    (by rwa [hfill, hzero, Nat.zero_add])
  rwa [hringL, hringR, hleft, hright, SpecChan.zero_outRing_getD] at hout

/-- The first process command of any engine is silent, SPEC_PROCESS up to its first hop. -/
theorem State.Fresh.process_silent (h : s.Fresh) {i : Instr}
    (hi : i ∈ [Instr.convProcess, .granProcess, .specProcess]) :
    SilentFor (if i = .specProcess then min s.blockSize Config.hs else s.blockSize) i s := by
  cases i with
  | convProcess => exact h.convProcess_silent
  | granProcess => exact h.granProcess_silent
  | specProcess => exact h.specProcess_silent
  | _ => simp at hi

end

/-- Settles O45: the machine is fresh after INIT and stays so under writes to ARG0 to ARG4. -/
theorem firstBlocksAfterInitAreSilent : Obligations.FirstBlocksAfterInitAreSilent := by
  intro s t hinit hok a0 a1 a2 a3 a4 i hi
  have hfresh : State.Fresh { t with arg0 := a0, arg1 := a1, arg2 := a2, arg3 := a3, arg4 := a4 } :=
    { execInit_fresh hinit hok with }
  obtain ⟨u, left, right, hexec, hrc, hout, hzero⟩ := hfresh.process_silent hi
  refine ⟨u, hexec, hrc, fun k hk hspec => ?_⟩
  have hkn : k < if i = .specProcess then min t.blockSize Config.hs else t.blockSize := by
    split
    · exact lt_min hk (hspec ‹_›)
    · exact hk
  obtain ⟨hl, hr⟩ := hzero k hkn
  exact ⟨(hout.left k hk).trans hl, (hout.right k hk).trans hr⟩

end Sys2Proof.Machine

/-! PROOFS. The statements on the buffer primitives (42_buffer_primitives.md), and the exactness of multiplying by 1.0
(R155). -/

namespace Sys2Proof.Machine

/-! ### Spans as lists of their elements -/

theorem readSpan_srcSpan (s : State) : s.readSpan (srcSpan s) = tabulate s.arg2.toNat s.srcWord := rfl

theorem readSpan_dstSpan (s : State) : s.readSpan (dstSpan s) = tabulate s.arg2.toNat s.dstWord := rfl

section
variable {α β γ : Type} (n : Nat) (f : Nat → α) (g : Nat → β)

theorem map_tabulate (h : α → β) : (tabulate n f).map h = tabulate n (fun k => h (f k)) := by
  simp [tabulate]

theorem zipWith_tabulate (h : α → β → γ) :
    List.zipWith h (tabulate n f) (tabulate n g) = tabulate n (fun k => h (f k) (g k)) := by
  simp [tabulate, List.zipWith_map, List.zipWith_self]

theorem zipIdx_tabulate : (tabulate n f).zipIdx = tabulate n (fun k => (f k, k)) := by
  apply List.ext_getElem
  · simp
  · intro k _ _
    simp [tabulate]

theorem replicate_eq_tabulate (a : α) : List.replicate n a = tabulate n (fun _ => a) := by
  simp [tabulate]

/-- Pairs laid end to end: the even places hold the first of each, the odd places the second. -/
theorem flatMap_pair_eq_tabulate (f g : Nat → α) :
    (List.range n).flatMap (fun i => [f i, g i]) =
      tabulate (2 * n) (fun k => if k % 2 = 0 then f (k / 2) else g (k / 2)) := by
  induction n with
  | zero => rfl
  | succ n ih =>
    have heven : 2 * n % 2 = 0 ∧ 2 * n / 2 = n := by omega
    have hodd : (2 * n + 1) % 2 = 1 ∧ (2 * n + 1) / 2 = n := by omega
    simp only [tabulate] at ih ⊢
    simp [Nat.mul_succ, List.range_succ, ih, heven, hodd]

end

/-! ### The two writes of a primitive (R151, R154) -/

/-- Moved words. -/
theorem wroteSpan_writeWords (s : State) (off n : Nat) (value : Nat → Word) :
    WroteSpan s (finish 0#32 0#32 (s.writeWords off (tabulate n value))) off n 0 value where
  words i hi := by
    rw [← tabulate_getD n value i 0#32 hi]
    exact s.readWord_writeWords_self _ off i _ (by simpa using hi)
  bytes a ha := s.readByte_writeWords_other _ (by simpa using ha)
  rest := rfl

/-- Computed words: element i draws the pattern i of its span's (log 8). -/
theorem wroteSpan_writeComputed (s : State) (off n : Nat) (value : Nat → Word) :
    WroteSpan s (finish 0#32 0#32 (s.writeComputed off (tabulate n value))) off n n
      (fun k => F32.settle (s.nanDraws + k) (value k)) where
  words i hi := by
    rw [← tabulate_getD n value i 0#32 hi]
    exact s.readWord_writeComputed_self _ off i _ (by simpa using hi)
  bytes a ha := s.readByte_writeComputed_other _ (by simpa using ha)
  rest := by simp [finish, finishTrunc, State.writeComputed]

/-! ### The shapes of the primitives (R151, R152) -/

section
variable {i : Instr}

/-- A command that checks readiness, then its spans, and then writes one span is a primitive. -/
theorem primitive_of_checked {accepts : State → Bool} {off n draws : State → Nat} {value : State → Nat → Word}
    {done : State → State}
    (hexec : ∀ s, exec i s = whenReady s (require (accepts s) .badSpan s (.next (done s))))
    (hdone : ∀ s, WroteSpan s (done s) (off s) (n s) (draws s) (value s)) :
    Primitive i accepts off n draws value := by
  intro s
  refine ⟨fun hr => ?_, fun hr hok => ?_, fun hr hok => ⟨done s, ?_, hdone s⟩⟩
  · rw [hexec, whenReady_false hr]
  · rw [hexec, whenReady_true hr, require_false hok]
  · rw [hexec, whenReady_true hr, require_true hok]

theorem computedPrimitive_of_computeSpan {f : State → List Word → List Word → List Word} {value : State → Nat → Word}
    (hexec : ∀ s, exec i s = computeSpan s (f s))
    (hf : ∀ s, f s (s.readSpan (srcSpan s)) (s.readSpan (dstSpan s)) = tabulate s.arg2.toNat (value s)) :
    ComputedPrimitive i value :=
  primitive_of_checked hexec fun s => by
    rw [hf]
    exact wroteSpan_writeComputed s s.arg0.toNat s.arg2.toNat (value s)

theorem movingPrimitive_of_moveSpan {f : State → List Word → List Word} {value : State → Nat → Word}
    (hexec : ∀ s, exec i s = moveSpan s (f s))
    (hf : ∀ s, f s (s.readSpan (srcSpan s)) = tabulate s.arg2.toNat (value s)) :
    MovingPrimitive i value :=
  primitive_of_checked hexec fun s => by
    rw [hf]
    exact wroteSpan_writeWords s s.arg0.toNat s.arg2.toNat (value s)

end

/-! ### The element-wise primitives (R155 to R159, R162 to R165) -/

/-- Settles O16: each of the three lists of elements, as a function of the index. -/
theorem bufArithmeticMeaning : Obligations.BufArithmeticMeaning := by
  refine ⟨computedPrimitive_of_computeSpan exec_bufScale fun s => ?_,
    computedPrimitive_of_computeSpan exec_bufAdd fun s => ?_,
    computedPrimitive_of_computeSpan exec_bufMix fun s => ?_⟩
  · rw [readSpan_srcSpan, map_tabulate]
  · rw [readSpan_srcSpan, readSpan_dstSpan, zipWith_tabulate]
  · rw [readSpan_srcSpan, readSpan_dstSpan, zipWith_tabulate]
    rfl

/-- Settles O17: BUF_COPY moves its source as it is, BUF_CLEAR writes one constant. -/
theorem bufCopyAndClearMeaning : Obligations.BufCopyAndClearMeaning := by
  refine ⟨movingPrimitive_of_moveSpan exec_bufCopy readSpan_srcSpan, primitive_of_checked exec_bufClear fun s => ?_⟩
  rw [replicate_eq_tabulate]
  exact wroteSpan_writeWords s s.arg0.toNat s.arg2.toNat _

/-- BUF_GAIN_RAMP's elements: the gain depends on the index alone (R162). -/
theorem rampSpan_tabulate (g0 g1 : Word) (n : Nat) (x : Nat → Word) :
    rampSpan g0 g1 n (tabulate n x) =
      tabulate n (fun k => F32.mul (x k) (rampGain g0 (F32.sub g1 g0) (F32.ofNat n) k)) := by
  rw [rampSpan, zipIdx_tabulate, map_tabulate]

/-- BUF_DC_REMOVE's elements: each less the mean, of the sum in index order (R165). -/
theorem dcRemoved_tabulate (n : Nat) (x : Nat → Word) :
    dcRemoved (tabulate n x) =
      tabulate n (fun k => F32.sub (x k) (F32.div (seqSum (tabulate n x)) (F32.ofNat n))) := by
  simp only [dcRemoved, tabulate_length, map_tabulate]

/-- Settles O19: the ramp's and the DC removal's lists of elements. -/
theorem bufRampAndDcRemoveMeaning : Obligations.BufRampAndDcRemoveMeaning :=
  ⟨computedPrimitive_of_computeSpan exec_bufGainRamp fun s =>
      rampSpan_tabulate s.arg3 s.arg4 s.arg2.toNat s.srcWord,
    computedPrimitive_of_computeSpan exec_bufDcRemove fun s => dcRemoved_tabulate s.arg2.toNat s.srcWord⟩

/-- Settles O20: both clips map their element rule over the source. -/
theorem bufClipMeaning : Obligations.BufClipMeaning :=
  ⟨movingPrimitive_of_moveSpan exec_bufSoftClip fun s => map_tabulate s.arg2.toNat s.srcWord softClipElem,
    movingPrimitive_of_moveSpan exec_bufHardClip fun s =>
      map_tabulate s.arg2.toNat s.srcWord (hardClipElem (clampThreshold s.arg3))⟩

/-! ### BUF_INTERLEAVE and BUF_DEINTERLEAVE (R160, R161) -/

/-- Two spans that are not empty and do not overlap lie one after the other. -/
theorem Span.apart_of_overlaps_eq_false {a b : Span} (h : a.overlaps b = false) (ha : 0 < a.n) (hb : 0 < b.n) :
    a.stop ≤ b.off ∨ b.stop ≤ a.off := by
  by_contra hc
  have : a.overlaps b = true := by
    simp only [Span.overlaps, Bool.and_eq_true, decide_eq_true_eq]
    omega
  simp [h] at this

section
variable (s : State) {offL offR n : Nat} (left right : Nat → Word)

/-- Two spans written one after the other: the second one is there. -/
theorem readWord_writeWords_second {k : Nat} (hk : k < n) :
    ((s.writeWords offL (tabulate n left)).writeWords offR (tabulate n right)).readWord (offR + 4 * k) = right k :=
  (wroteSpan_writeWords (s.writeWords offL (tabulate n left)) offR n right).words k hk

/-- The first one too, where they are disjoint. -/
theorem readWord_writeWords_first (h : (⟨offL, n⟩ : Span).overlaps ⟨offR, n⟩ = false) {k : Nat} (hk : k < n) :
    ((s.writeWords offL (tabulate n left)).writeWords offR (tabulate n right)).readWord (offL + 4 * k) = left k := by
  have hapart : offL + 4 * n ≤ offR ∨ offR + 4 * n ≤ offL :=
    Span.apart_of_overlaps_eq_false h (Nat.zero_lt_of_lt hk) (Nat.zero_lt_of_lt hk)
  rw [State.readWord_writeWords_other _ _ (by rw [tabulate_length]; omega)]
  exact (wroteSpan_writeWords s offL n left).words k hk

/-- A byte outside both is as before. -/
theorem readByte_writeWords_both {a : Nat} (hl : a < offL ∨ offL + 4 * n ≤ a) (hr : a < offR ∨ offR + 4 * n ≤ a) :
    ((s.writeWords offL (tabulate n left)).writeWords offR (tabulate n right)).readByte a = s.readByte a := by
  rw [State.readByte_writeWords_other _ _ (by simpa using hr), State.readByte_writeWords_other _ _ (by simpa using hl)]

end

/-- Settles O18: the interleaved list by the parity of the index, and the two disjoint spans of BUF_DEINTERLEAVE. -/
theorem bufInterleaveAndDeinterleaveMeaning : Obligations.BufInterleaveAndDeinterleaveMeaning := by
  refine ⟨primitive_of_checked exec_bufInterleave fun s => ?_, fun s => ⟨fun hr => ?_, fun hr hok => ?_, fun hr hok => ?_⟩⟩
  · rw [flatMap_pair_eq_tabulate]
    exact wroteSpan_writeWords s s.arg0.toNat (2 * s.arg2.toNat) _
  · exact exec_notReady nofun nofun nofun hr
  · exact (whenReady_true hr).trans (require_false hok)
  · obtain ⟨-, -, -, -, -, hlr⟩ := (deinterleaveOk_iff _ _ _).1 hok
    exact ⟨_, (whenReady_true hr).trans (require_true hok), rfl,
      fun _ hk => ⟨readWord_writeWords_first s _ _ hlr hk, readWord_writeWords_second s _ _ hk⟩,
      fun _ hl hr => readByte_writeWords_both s _ _ hl hr⟩

/-! ### BUF_FIND_PEAK (R166) -/

section
variable {a b c : Word}

theorem F32.expo_abs (a : Word) : F32.expo (F32.abs a) = F32.expo a := by
  have hmask : (0x7FFFFFFF#32).extractLsb' 23 8 = BitVec.allOnes 8 := by decide
  rw [F32.expo, F32.abs, BitVec.extractLsb'_and, hmask, BitVec.and_allOnes, F32.expo]

theorem F32.frac_abs (a : Word) : F32.frac (F32.abs a) = F32.frac a := by
  have hmask : (0x7FFFFFFF#32).extractLsb' 0 23 = BitVec.allOnes 23 := by decide
  rw [F32.frac, F32.abs, BitVec.extractLsb'_and, hmask, BitVec.and_allOnes, F32.frac]

/-- The absolute value of a NaN is a NaN, and no other one is. -/
theorem F32.isNaN_abs (a : Word) : F32.isNaN (F32.abs a) = F32.isNaN a := by
  rw [F32.isNaN, F32.expo_abs, F32.frac_abs, F32.isNaN]

theorem F32.lt_of_le_lt (h1 : F32.le a b = true) (h2 : F32.lt b c = true) : F32.lt a c = true := by
  obtain ⟨ha, -, hab⟩ := (F32.le_iff a b).1 h1
  obtain ⟨-, hc, hbc⟩ := (F32.lt_iff b c).1 h2
  exact (F32.lt_iff a c).2 ⟨ha, hc, Int.lt_of_le_of_lt hab hbc⟩

/-- What is not above the lower one is not above the higher one. -/
theorem F32.lt_eq_false_of_le_left (h1 : F32.le a b = true) (h2 : F32.lt a c = false) : F32.lt b c = false := by
  cases h : F32.lt b c with
  | false => rfl
  | true => simpa [h2] using F32.lt_of_le_lt h1 h

end

/-- One step of the search: the running peak and the next sample (R166). -/
def peakStep (p x : Word) : Word := if F32.lt p (F32.abs x) then F32.abs x else p

/-- A step never lowers the peak, and the sample does not exceed the new one. -/
theorem peakStep_bounds {p : Word} (hp : F32.isNaN p = false) (x : Word) :
    F32.le p (peakStep p x) = true ∧ F32.lt (peakStep p x) (F32.abs x) = false := by
  unfold peakStep
  cases h : F32.lt p (F32.abs x) with
  | true =>
    obtain ⟨-, hx, -⟩ := (F32.lt_iff p (F32.abs x)).1 h
    exact ⟨F32.le_of_lt h, F32.lt_eq_false_of_le (F32.le_refl hx)⟩
  | false => exact ⟨F32.le_refl hp, h⟩

/-- The new peak is the old one or the magnitude of a sample that is no NaN. -/
theorem peakStep_source (p x : Word) :
    peakStep p x = p ∨ (F32.isNaN x = false ∧ peakStep p x = F32.abs x) := by
  unfold peakStep
  split
  · obtain ⟨-, hx, -⟩ := (F32.lt_iff p (F32.abs x)).1 ‹_›
    exact .inr ⟨F32.isNaN_abs x ▸ hx, rfl⟩
  · exact .inl rfl

/-- From any peak that is a number, the search never lowers it, and no sample exceeds the result. -/
theorem foldl_peakStep_bounds (xs : List Word) {p : Word} (hp : F32.isNaN p = false) :
    F32.le p (xs.foldl peakStep p) = true ∧ ∀ x ∈ xs, F32.lt (xs.foldl peakStep p) (F32.abs x) = false := by
  induction xs generalizing p with
  | nil => exact ⟨F32.le_refl hp, nofun⟩
  | cons y ys ih =>
    obtain ⟨hle, hy⟩ := peakStep_bounds hp y
    obtain ⟨-, hnum, -⟩ := (F32.le_iff _ _).1 hle
    obtain ⟨hrise, hys⟩ := ih hnum
    exact ⟨F32.le_trans hle hrise, List.forall_mem_cons.2 ⟨F32.lt_eq_false_of_le_left hrise hy, hys⟩⟩

/-- The result is the peak the search began with, or the magnitude of a sample that is no NaN. -/
theorem foldl_peakStep_source (xs : List Word) (p : Word) :
    xs.foldl peakStep p = p ∨ ∃ x ∈ xs, F32.isNaN x = false ∧ xs.foldl peakStep p = F32.abs x := by
  induction xs generalizing p with
  | nil => exact .inl rfl
  | cons y ys ih =>
    rcases ih (peakStep p y) with h | ⟨x, hx, hnum, h⟩
    · rcases peakStep_source p y with hp | ⟨hnum, hp⟩
      · exact .inl (h.trans hp)
      · exact .inr ⟨y, List.mem_cons_self, hnum, h.trans hp⟩
    · exact .inr ⟨x, List.mem_cons_of_mem y hx, hnum, h⟩

/-- No sample's magnitude is above the peak. -/
theorem peakOf_bounds (xs : List Word) : ∀ x ∈ xs, F32.lt (peakOf xs) (F32.abs x) = false :=
  (foldl_peakStep_bounds xs (p := F32.zero) rfl).2

/-- The peak is +0.0 or the magnitude of a sample that is no NaN. -/
theorem peakOf_source (xs : List Word) :
    peakOf xs = F32.zero ∨ ∃ x ∈ xs, F32.isNaN x = false ∧ peakOf xs = F32.abs x :=
  foldl_peakStep_source xs F32.zero

theorem mem_tabulate {α : Type} {n : Nat} {f : Nat → α} {x : α} : x ∈ tabulate n f ↔ ∃ k, k < n ∧ f k = x := by
  simp [tabulate]

/-- Settles O21: the bounds and the source of the peak of the span. -/
theorem bufFindPeakMeaning : Obligations.BufFindPeakMeaning := by
  intro s
  refine ⟨exec_notReady nofun nofun nofun, fun hr hv => (whenReady_true hr).trans (require_false hv),
    fun hr hv => ⟨_, (whenReady_true hr).trans (require_true hv), fun k hk => ?_, ?_⟩⟩
  · exact peakOf_bounds _ _ (mem_tabulate.2 ⟨k, hk, rfl⟩)
  · refine (peakOf_source (s.readSpan (srcSpan s))).imp_right ?_
    rintro ⟨x, hx, hnum, hp⟩
    obtain ⟨k, hk, rfl⟩ := mem_tabulate.1 hx
    exact ⟨k, hk, hnum, hp⟩

/-! ### Multiplication by 1.0 (R155) -/

section
variable {x y : Word}

/-- A number that is no infinity is finite. -/
theorem F32.isFinite_of_not (hn : F32.isNaN x = false) (hi : F32.isInf x = false) : F32.isFinite x = true := by
  by_contra h
  have he : F32.expo x = 255 := by simpa [F32.isFinite] using h
  have hf : F32.frac x ≠ 0 := by simpa [F32.isInf, he] using hi
  simp [F32.isNaN, he, hf] at hn

theorem F32.isInf_iff (x : Word) : F32.isInf x = true ↔ F32.expo x = 255 ∧ F32.frac x = 0 := by
  simp [F32.isInf]

/-- The magnitude of an infinity is 2^128, in units of 2^-149. -/
theorem F32.mag_of_isInf (h : F32.isInf x = true) : F32.mag x = 2 ^ 128 * F32.unitsPerOne := by
  obtain ⟨he, hf⟩ := (F32.isInf_iff x).1 h
  rw [F32.mag, he, hf]
  decide

theorem F32.mul_of_finite (hx : F32.isNaN x = false) (hy : F32.isNaN y = false) (hxi : F32.isInf x = false)
    (hyi : F32.isInf y = false) :
    F32.mul x y =
      F32.pack (F32.sign x != F32.sign y) (F32.roundBits (F32.mag x * F32.mag y) F32.unitsPerOne) := by
  simp [F32.mul, hx, hy, hxi, hyi]

/-- An infinity times a finite number that is not 0 is an infinity. -/
theorem F32.mul_of_isInf (hx : F32.isNaN x = false) (hy : F32.isNaN y = false) (hxi : F32.isInf x = true)
    (hy0 : F32.mag y ≠ 0) : F32.mul x y = F32.pack (F32.sign x != F32.sign y) 0x7F800000 := by
  have hx0 : F32.mag x ≠ 0 := by rw [F32.mag_of_isInf hxi]; decide
  simp [F32.mul, hx, hy, hxi, hy0, hx0]

theorem F32.mag_one : F32.mag F32.one = F32.unitsPerOne := by decide

/-- Multiplying a number by 1.0 gives it back: an infinity keeps its sign, and the product of a finite value is its own
magnitude, which rounds to itself. -/
theorem F32.mul_one_eq_self (hx : F32.isNaN x = false) : F32.mul x F32.one = x := by
  have hsign : (F32.sign x != F32.sign F32.one) = F32.sign x := by simp [show F32.sign F32.one = false from rfl]
  cases hi : F32.isInf x with
  | true =>
    obtain ⟨he, hf⟩ := (F32.isInf_iff x).1 hi
    have hbits : 0x7F800000 = F32.expo x * 2 ^ 23 + F32.frac x := by simp [he, hf]
    rw [F32.mul_of_isInf hx rfl hi (by decide), hsign, hbits, F32.pack_self]
  | false =>
    rw [F32.mul_of_finite hx rfl hi rfl, hsign, F32.mag_one,
      F32.roundBits_mag (F32.isFinite_of_not hx hi) (by decide), F32.pack_self]

end

/-- Settles O55, by the two cases of the exact product. -/
theorem multiplyingByOneIsExact : Obligations.MultiplyingByOneIsExact :=
  fun _ hx => F32.mul_one_eq_self hx

/-! ### ENV_LOOKUP (R125, R167) -/

section
variable {x : Word}

/-- Every magnitude has at most 24 significant bits. -/
theorem F32.mag_significant (x : Word) : ∃ f j, f < 2 ^ 24 ∧ F32.mag x = f * 2 ^ j := by
  have hf := F32.frac_lt x
  by_cases h : F32.expo x = 0
  · exact ⟨F32.frac x, 0, by omega, by simp [F32.mag, h]⟩
  · exact ⟨2 ^ 23 + F32.frac x, F32.expo x - 1, by omega, by simp [F32.mag, h]⟩

/-- A value between +0.0 and a positive bound has a magnitude up to the bound's. -/
theorem F32.mag_le_of_range {hi : Word} (hs : F32.sign hi = false) (h0 : F32.le F32.zero x = true)
    (h1 : F32.le x hi = true) : F32.mag x ≤ F32.mag hi := by
  obtain ⟨-, -, hlo⟩ := (F32.le_iff _ _).1 h0
  obtain ⟨-, -, hhi⟩ := (F32.le_iff _ _).1 h1
  have hzero : F32.val F32.zero = 0 := by decide
  rw [hzero] at hlo
  simp only [F32.val, hs, Bool.false_eq_true, if_false] at hlo hhi
  cases hx : F32.sign x with
  | true =>
    rw [if_pos hx] at hlo
    omega
  | false =>
    rw [if_neg (by simp [hx])] at hhi
    omega

/-- Below 1.0, multiplying by 1024.0 is exact. -/
theorem F32.mag_mul_1024 (hx : F32.isNaN x = false) (hm : F32.mag x < F32.unitsPerOne) :
    F32.mag (F32.mul x 0x44800000#32) = F32.mag x * 1024 := by
  have hinf : F32.isInf x = false := by
    by_contra h
    rw [F32.mag_of_isInf (eq_true_of_ne_false h)] at hm
    exact absurd hm (by decide)
  obtain ⟨f, j, hf, hmag⟩ := F32.mag_significant x
  have hprod : F32.mag x * F32.mag 0x44800000#32 = f * 2 ^ (j + 10) * F32.unitsPerOne := by
    rw [show F32.mag 0x44800000#32 = 2 ^ 10 * F32.unitsPerOne by decide, hmag]
    ring
  have hsmall : f * 2 ^ (j + 10) < 2 ^ 250 := by
    have hscaled : f * 2 ^ (j + 10) = F32.mag x * 2 ^ 10 := by rw [hmag]; ring
    rw [F32.unitsPerOne] at hm
    omega
  obtain ⟨-, hround⟩ := F32.mag_pack_roundBits (F32.sign x != F32.sign 0x44800000#32) hf hsmall
    (den := F32.unitsPerOne) (by decide)
  rw [F32.mul_of_finite hx rfl hinf rfl, hprod, hround, hmag]
  ring

/-- The clamped phase is a number below 1.0. -/
theorem clampPhase_below_one (w : Word) :
    F32.isNaN (clampPhase w) = false ∧ F32.mag (clampPhase w) < F32.unitsPerOne := by
  have hbounds : F32.le F32.zero 0x3F7FFFFF#32 = true := by decide
  cases hw : F32.isNaN w with
  | true =>
    rw [clampPhase, F32.clampP_of_nan hw]
    decide
  | false =>
    obtain ⟨hlo, hhi⟩ := F32.clampP_range (nv := F32.zero) hbounds hw
    obtain ⟨-, hnum, -⟩ := (F32.le_iff _ _).1 hlo
    exact ⟨hnum, Nat.lt_of_le_of_lt (F32.mag_le_of_range rfl hlo hhi) (by decide)⟩

/-- The index of an envelope lookup lies in the table (R125). -/
theorem envIndex_lt (w : Word) : envIndex w < 1024 := by
  obtain ⟨hnum, hmag⟩ := clampPhase_below_one w
  rw [envIndex, F32.toIndex, F32.mag_mul_1024 hnum hmag, Nat.div_lt_iff_lt_mul (by decide), Nat.mul_comm 1024]
  exact Nat.mul_lt_mul_of_pos_right hmag (by decide)

end

/-- Settles O22: the command answers the value and the index that the shared lookup gives. -/
theorem envLookupMeaning : Obligations.EnvLookupMeaning :=
  fun s => ⟨exec_notReady nofun nofun nofun, fun hr => ⟨envIndex_lt s.arg3, whenReady_true hr⟩⟩

end Sys2Proof.Machine

/-! PROOFS. The statements on the convolution engine (43_convolution.md), and the joining of blocks for the three
engines. -/

namespace Sys2Proof.Machine

/-! ### CONV_LOAD_IR (R176, R177, R178) -/

/-- Computed values, stored: value k draws pattern k of its list's (40_numerics.md R107). -/
theorem settleList_tabulate (d n : Nat) (f : Nat → Word) :
    F32.settleList d (tabulate n f) = tabulate n (fun k => F32.settle (d + k) (f k)) := by
  refine List.ext_getElem (by simp) fun k hk _ => ?_
  have hkn : k < n := by simpa using hk
  rw [← List.getD_eq_getElem _ F32.zero, ← List.getD_eq_getElem _ F32.zero,
    F32.settleList_getD _ _ _ _ (by simpa using hkn), tabulate_getD _ _ _ _ hkn, tabulate_getD _ _ _ _ hkn]

/-- Frame q of the downmixed impulse response as it is stored (R177). -/
def irFrame (s : State) (ch q : Nat) : Word :=
  if ch = 1 then s.readWord (regionIr.base + 4 * q)
  else F32.settle (s.nanDraws + q) (stereoFrame s regionIr.base q)

theorem irFrames_eq_tabulate (s : State) (ch n : Nat) : irFrames s ch n = tabulate n (irFrame s ch) := by
  unfold irFrames irFrame
  split
  · rfl
  · exact settleList_tabulate s.nanDraws n (stereoFrame s regionIr.base)

/-- Partition p of an impulse response of `n` frames, zero-padded to NC values (R176). -/
theorem paddedBlock_drop_tabulate (n p : Nat) (f : Nat → Word) :
    paddedBlock ((tabulate n f).drop (p * Config.hc)) =
      tabulate Config.nc (fun k =>
        if k < Config.hc ∧ p * Config.hc + k < n then C32.ofReal (f (p * Config.hc + k)) else C32.zero) := by
  refine List.map_congr_left fun k _ => ?_
  rw [List.getD_eq_getElem?_getD, List.getElem?_drop, ← List.getD_eq_getElem?_getD]
  by_cases hk : k < Config.hc
  · by_cases hn : p * Config.hc + k < n
    · rw [if_pos hk, if_pos ⟨hk, hn⟩, tabulate_getD _ _ _ _ hn]
    · rw [if_pos hk, if_neg (fun h => hn h.2), List.getD_eq_default _ _ (by simpa using hn)]
      rfl
  · rw [if_neg hk, if_neg (fun h => hk h.1)]

section
variable {ch : Nat} (len : Nat)

/-- The frames kept: up to PMAX partitions of a mono response, up to the region's capacity of a stereo one (R176). -/
theorem irFramesKept_eq (hch : ch = 1 ∨ ch = 2) :
    irFramesKept len ch = min len (if ch = 1 then 220544 else 220500) := by
  rcases hch with rfl | rfl <;>
    simp only [irFramesKept, irPartitions, irCapFrames, Config.irCapWords, Config.hc, Config.pMax, if_true,
      show ¬ (2 = 1) by decide, if_false] <;>
    omega

/-- The partitions are those that the kept frames fill, the last one perhaps in part (R176). -/
theorem irPartitions_eq (hch : ch = 1 ∨ ch = 2) : irPartitions len ch = (irFramesKept len ch + 127) / 128 := by
  rcases hch with rfl | rfl <;>
    simp only [irFramesKept, irPartitions, irCapFrames, Config.irCapWords, Config.hc, Config.pMax] <;>
    omega

end

section
variable {s : State}

theorem execConvLoadIr_badChannelCount (hr : s.ready = true) (hch : channelCountOk s.arg1 = false) :
    execConvLoadIr s = .next (raiseRC .badChannelCount s) := by
  rw [execConvLoadIr, whenReady_true hr, require_false hch]

theorem execConvLoadIr_completes (hr : s.ready = true) (hch : channelCountOk s.arg1 = true) :
    execConvLoadIr s =
      .next (finishTrunc (decide (irFramesKept s.arg0.toNat s.arg1.toNat < s.arg0.toNat))
        (BitVec.ofNat 32 (irFramesKept s.arg0.toNat s.arg1.toNat))
        (BitVec.ofNat 32 (irPartitions s.arg0.toNat s.arg1.toNat))
        (irLoadedState s s.arg0.toNat s.arg1.toNat)) := by
  rw [execConvLoadIr, whenReady_true hr, require_true hch]

end

/-- The spectra of an impulse response: of each partition's frames, zero-padded (R176). -/
theorem irSpectra_irFrames (s : State) (ch kept d parts : Nat) :
    irSpectra s.numerics (irFrames s ch kept) d parts =
      tabulate parts (fun p => storedSpectrum (d + p * (2 * Config.nc)) (fft s.numerics Config.nc
        (tabulate Config.nc (fun k =>
          if k < Config.hc ∧ p * Config.hc + k < kept then C32.ofReal (irFrame s ch (p * Config.hc + k))
          else C32.zero)))) := by
  simp only [irSpectra, irFrames_eq_tabulate, paddedBlock_drop_tabulate]

/-- Settles O23: the two failures, and the counts and the spectra of the state that a load leaves. -/
theorem convLoadIrMeaning : Obligations.ConvLoadIrMeaning := by
  intro s
  refine ⟨exec_notReady nofun nofun nofun, fun hr h1 h2 => ?_, fun hr hch => ?_⟩
  · exact execConvLoadIr_badChannelCount hr (eq_false_of_ne_true (mt (channelCountOk_iff _).1 (by simp [h1, h2])))
  · rw [exec_convLoadIr, execConvLoadIr_completes hr ((channelCountOk_iff _).2 hch), irLoadedState,
      irPartitions_eq _ hch, irFramesKept_eq _ hch, irSpectra_irFrames]
    rfl

/-! ### CONV_RESET (R183) -/

/-- Settles O24: both channels are cleared alike, with one FDL slot of zeros per partition. -/
theorem convResetClearsTheHistory : Obligations.ConvResetClearsTheHistory := by
  refine ⟨fun c => ⟨rfl, rfl, rfl, rfl, ?_⟩, fun s => ⟨exec_notReady nofun nofun nofun, fun hr => ?_⟩⟩
  · exact List.forall_mem_cons.2 ⟨⟨rfl, rfl, rfl⟩, List.forall_mem_singleton.2 ⟨rfl, rfl, rfl⟩⟩
  · exact whenReady_true hr

/-! ### CONV_PROCESS as a command (R179) -/

/-- Output words are those of any functions that agree with them on the block. -/
theorem WroteOutputs.congr {s t : State} {left right left' right' : Nat → Word} (h : WroteOutputs s t left right)
    (hl : ∀ k, k < s.blockSize → left k = left' k) (hr : ∀ k, k < s.blockSize → right k = right' k) :
    WroteOutputs s t left' right' where
  left k hk := (h.left k hk).trans (hl k hk)
  right k hk := (h.right k hk).trans (hr k hk)
  bytes := h.bytes

/-- Settles O26: without an IR the outputs are the spans of the input blocks. -/
theorem convProcessPassesThrough : Obligations.ConvProcessPassesThrough := by
  intro s hr hl hb
  have hout : WroteOutputs s (finish 0#32 0#32 (convPassThrough s)) _ _ :=
    wroteOutputs_finish hb (by simp [State.block]) (by simp [State.block]) s.conv s.gran s.spec s.nanDraws
  exact ⟨_, execConvProcess_unloaded hr hl hb,
    hout.congr (fun k hk => s.readSpan_getD (s.block regionInL) k _ hk)
      (fun k hk => s.readSpan_getD (s.block regionInR) k _ hk),
    rfl⟩

/-- The run of CONV_PROCESS's block through the engine. -/
def convRun (s : State) : ConvRun :=
  convBlock s.numerics (F32.sub F32.one (clampDryWet s.arg0)) (clampDryWet s.arg0) (inputBlock s) s.conv s.nanDraws

theorem convProcessed_eq (s : State) :
    convProcessed s = { writeOutputs s (convRun s).outL (convRun s).outR with
      conv := (convRun s).conv, nanDraws := (convRun s).draws } := rfl

theorem convRun_length (s : State) :
    (convRun s).outL.length = s.blockSize ∧ (convRun s).outR.length = s.blockSize := by
  simp [convRun]

/-- Settles O27: the block's run gives one word per sample and channel, and the engine and the draws after it. -/
theorem convProcessCompletes : Obligations.ConvProcessCompletes := by
  intro s hr hl hb wet run
  have hrun : run = convRun s := rfl
  obtain ⟨hlenL, hlenR⟩ := convRun_length s
  rw [hrun]
  refine ⟨⟨inputBlock_length s, inputBlock_getElem? s⟩, _, execConvProcess_loaded hr hl hb, ?_, ?_⟩
  · exact wroteOutputs_finish hb hlenL hlenR _ _ _ _
  · rw [convProcessed_eq]
    rfl

/-! ### Within a sub-block (R179) -/

/-- Words that enter a sub-block one after the other, from the fill count up. -/
def enterWords (fill : Nat) : List Word → List Word → List Word
  | [], input => input
  | x :: xs, input => enterWords (fill + 1) xs (input.set fill x)

theorem enterWords_getD (xs : List Word) {fill j : Nat} {input : List Word} (hj : j < input.length) (w : Word) :
    (enterWords fill xs input).getD j w =
      if fill ≤ j ∧ j < fill + xs.length then xs.getD (j - fill) w else input.getD j w := by
  induction xs generalizing fill input with
  | nil => rw [if_neg (by simp), enterWords]
  | cons x xs ih =>
    rw [enterWords, ih (by simpa using hj), List.length_cons]
    rcases Nat.lt_trichotomy j fill with h | rfl | h
    · rw [if_neg (by omega), if_neg (by omega)]
      simp [List.getD_eq_getElem?_getD, List.getElem?_set_ne (Nat.ne_of_gt h)]
    · rw [if_neg (by omega), if_pos (by omega), Nat.sub_self]
      simp [List.getD_eq_getElem?_getD, hj]
    · have hindex : j - fill = j - (fill + 1) + 1 := by omega
      have hrange : (fill + 1 ≤ j ∧ j < fill + 1 + xs.length) ↔ (fill ≤ j ∧ j < fill + (xs.length + 1)) := by omega
      have hset : (input.set fill x).getD j w = input.getD j w := by
        simp [List.getD_eq_getElem?_getD, List.getElem?_set_ne (Nat.ne_of_lt h)]
      simp only [hrange, hset, hindex, List.getD_cons_succ]

/-- The engine when samples have arrived that do not fill the sub-block. -/
def Conv.entered (c : Conv) (xs : List (Word × Word)) : Conv :=
  { c with
    left := { c.left with input := enterWords c.fill (xs.map Prod.fst) c.left.input }
    right := { c.right with input := enterWords c.fill (xs.map Prod.snd) c.right.input }
    fill := c.fill + xs.length }

theorem Conv.entered_cons (c : Conv) (x : Word × Word) (xs : List (Word × Word)) :
    c.entered (x :: xs) = (c.entered [x]).entered xs := by
  have hfill : c.fill + (xs.length + 1) = c.fill + 1 + xs.length := by omega
  simp [Conv.entered, enterWords, hfill]

section
variable (cfg : Config.Numerics) (dry wet : Word)

theorem convEndSample_within {c : Conv} (h : c.fill + 1 ≠ Config.hc) (d : Nat) :
    convEndSample cfg c d = ({ c with fill := c.fill + 1 }, d) := by
  rw [convEndSample, if_neg h]

/-- A sample that does not fill the sub-block enters it and runs no sub-block step. -/
theorem convSample_within (x : Word × Word) {c : Conv} (h : c.fill + 1 ≠ Config.hc) (d : Nat) :
    convSample cfg c x.1 x.2 d = (c.entered [x], d) := by
  rw [convSample, convEndSample, if_neg h]
  rfl

theorem convBlock_cons_within (x : Word × Word) (xs : List (Word × Word)) {c : Conv} (h : c.fill + 1 ≠ Config.hc)
    (d : Nat) :
    convBlock cfg dry wet (x :: xs) c d =
      { convBlock cfg dry wet xs (c.entered [x]) (d + 2) with
        outL := F32.settle d (convOut dry wet c.fill x.1 c.left) ::
          (convBlock cfg dry wet xs (c.entered [x]) (d + 2)).outL
        outR := F32.settle (d + 1) (convOut dry wet c.fill x.2 c.right) ::
          (convBlock cfg dry wet xs (c.entered [x]) (d + 2)).outR } := by
  rw [convBlock, convSample_within cfg x h]

/-- Up to the end of the current sub-block a block's outputs take the words of the tails from the fill up. -/
theorem convBlock_getD_within {xs : List (Word × Word)} {c : Conv} (d : Nat) {k : Nat} (hk : k < xs.length)
    (hf : c.fill + k < Config.hc) (w : Word) :
    (convBlock cfg dry wet xs c d).outL.getD k w =
      F32.settle (d + 2 * k) (convOut dry wet (c.fill + k) (xs.getD k (0#32, 0#32)).1 c.left) ∧
    (convBlock cfg dry wet xs c d).outR.getD k w =
      F32.settle (d + 2 * k + 1) (convOut dry wet (c.fill + k) (xs.getD k (0#32, 0#32)).2 c.right) := by
  induction xs generalizing c d k with
  | nil => exact absurd hk (Nat.not_lt_zero k)
  | cons x xs ih =>
    cases k with
    | zero => exact ⟨rfl, rfl⟩
    | succ k =>
      have hindex : c.fill + (k + 1) = (c.entered [x]).fill + k := by
        simp only [Conv.entered, List.length_singleton]
        omega
      have hdraw : d + 2 * (k + 1) = d + 2 + 2 * k := by omega
      rw [convBlock_cons_within _ _ _ _ _ (by omega), hindex, hdraw]
      exact ih (d + 2) (Nat.lt_of_succ_lt_succ hk) (hindex ▸ hf)

/-- A block that does not fill the sub-block only enters it. -/
theorem convBlock_entered {xs : List (Word × Word)} {c : Conv} (h : c.fill + xs.length < Config.hc) (d : Nat) :
    (convBlock cfg dry wet xs c d).conv = c.entered xs ∧
    (convBlock cfg dry wet xs c d).draws = d + 2 * xs.length := by
  induction xs generalizing c d with
  | nil => exact ⟨rfl, rfl⟩
  | cons x xs ih =>
    rw [List.length_cons] at h
    have hrest : (c.entered [x]).fill + xs.length < Config.hc := by
      simp only [Conv.entered, List.length_singleton]
      omega
    obtain ⟨hconv, hdraws⟩ := ih hrest (d + 2)
    rw [convBlock_cons_within _ _ _ _ _ (by omega), List.length_cons]
    exact ⟨hconv.trans (c.entered_cons x xs).symm, hdraws.trans (by omega)⟩

end

/-- Settles O28: the outputs up to the end of the sub-block, the words that entered it, and one sample. -/
theorem convWithinSubblock : Obligations.ConvWithinSubblock := by
  refine ⟨fun cfg dry wet xs c d h => ?_, fun cfg dry wet x c d => ⟨rfl, rfl, rfl⟩,
    fun cfg c d h => convEndSample_within cfg h d⟩
  intro run
  obtain ⟨hconv, hdraws⟩ : run.conv = c.entered xs ∧ run.draws = d + 2 * xs.length :=
    convBlock_entered cfg dry wet h d
  refine ⟨fun k hk => convBlock_getD_within cfg dry wet d hk (Nat.lt_trans (Nat.add_lt_add_left hk _) h) _, hdraws,
    ?_, fun j hj => ?_, fun j hj => ?_⟩
  · rw [hconv]
    rfl
  · rw [hconv, ← List.getD_map (f := Prod.fst)]
    simpa [Conv.entered] using enterWords_getD (fill := c.fill) (xs.map Prod.fst) hj 0#32
  · rw [hconv, ← List.getD_map (f := Prod.snd)]
    simpa [Conv.entered] using enterWords_getD (fill := c.fill) (xs.map Prod.snd) hj 0#32

/-! ### The first sub-block after a cleared history (R182) -/

section
variable {x : Word}

/-- +0.0 times a finite number is a zero of either sign. -/
theorem F32.zero_mul_of_finite (hx : F32.isFinite x = true) :
    F32.mul F32.zero x = F32.zero ∨ F32.mul F32.zero x = F32.negZero := by
  have he : F32.expo x ≠ 255 := by simpa [F32.isFinite] using hx
  have hnan : F32.isNaN x = false := by simp [F32.isNaN, he]
  have hinf : F32.isInf x = false := by simp [F32.isInf, he]
  rw [F32.mul_of_finite rfl hnan rfl hinf, show F32.mag F32.zero = 0 from rfl, Nat.zero_mul]
  cases F32.sign F32.zero != F32.sign x
  · exact .inl (by decide)
  · exact .inr (by decide)

/-- With the dry gain +0.0 and a +0.0 in the tail, the output of a finite input word is +0.0, which draws no pattern. -/
theorem settle_convOut_silent {fill : Nat} {ch : ConvChan} (hx : F32.isFinite x = true)
    (htail : ch.tail.getD fill F32.zero = F32.zero) (n : Nat) :
    F32.settle n (convOut F32.zero F32.one fill x ch) = F32.zero := by
  have hout : convOut F32.zero F32.one fill x ch = F32.zero := by
    rw [convOut, htail]
    rcases F32.zero_mul_of_finite hx with h | h <;> rw [h] <;> decide
  rw [hout, F32.settle_of_not_nan rfl]

end

theorem clearedConvChan_tail_getD (live j : Nat) : (clearedConvChan live).tail.getD j F32.zero = F32.zero := by
  rw [clearedConvChan, List.getD_eq_getElem?_getD]
  exact List.getElem?_getD_replicate_default_eq _ _ _

/-- Settles O30: a sample of the first sub-block meets the cleared tail only. -/
theorem convFirstSubblockIsSilent : Obligations.ConvFirstSubblockIsSilent := by
  intro cfg xs c d hlen hfin k hk
  have hdry : F32.sub 0x3F800000#32 0x3F800000#32 = F32.zero := by decide
  obtain ⟨hl, hr⟩ := hfin (xs.getD k (0#32, 0#32)) (by rw [List.getD_eq_getElem _ _ hk]; exact List.getElem_mem hk)
  have hwithin : (convClearHistory c).fill + k < Config.hc := by
    rw [show (convClearHistory c).fill = 0 from rfl, Nat.zero_add]
    exact Nat.lt_of_lt_of_le hk hlen
  obtain ⟨houtL, houtR⟩ := convBlock_getD_within cfg F32.zero F32.one d hk hwithin 0x1#32
  rw [hdry]
  exact ⟨houtL.trans (settle_convOut_silent hl (clearedConvChan_tail_getD c.parts _) _),
    houtR.trans (settle_convOut_silent hr (clearedConvChan_tail_getD c.parts _) _)⟩

/-! ### The sub-block step (R180) -/

/-- The first `n` terms of the partition sum, with `parts` partitions in the engine (R180). -/
def partialSum (parts pos : Nat) (fdl irSpec : List Spectrum) (n : Nat) : Spectrum :=
  (List.range n).foldl
    (fun sum p => spectrumMac sum (fdl.getD ((pos + parts - p) % parts) zeroSpectrum) (irSpec.getD p zeroSpectrum))
    zeroSpectrum

theorem partitionSum_eq_partialSum (parts pos : Nat) (fdl irSpec : List Spectrum) :
    partitionSum parts pos fdl irSpec = partialSum parts pos fdl irSpec parts := rfl

theorem partialSum_succ (parts pos : Nat) (fdl irSpec : List Spectrum) (n : Nat) :
    partialSum parts pos fdl irSpec (n + 1) =
      spectrumMac (partialSum parts pos fdl irSpec n) (fdl.getD ((pos + parts - n) % parts) zeroSpectrum)
        (irSpec.getD n zeroSpectrum) := by
  rw [partialSum, List.range_succ, List.foldl_append]
  rfl

theorem overlapTail_getD (tail : List Word) (z : Spectrum) {k : Nat} (hk : k < Config.nc) (w : Word) :
    (overlapTail tail z).getD k w =
      F32.add (if k < Config.nc - Config.hc then tail.getD (k + Config.hc) F32.zero else F32.zero)
        (F32.mul (z.getD k C32.zero).re Config.invNc) := tabulate_getD _ _ _ _ hk

section
variable (cfg : Config.Numerics) (c : Conv) (ch : ConvChan) (d : Nat)

theorem convSubblock_fdl :
    (convSubblock cfg c ch d).fdl =
      ch.fdl.set c.pos (storedSpectrum d (fft cfg Config.nc (paddedBlock ch.input))) := rfl

/-- A word of the new tail: its draw follows those of the new slot and of the sum. -/
theorem convSubblock_tail_getD {k : Nat} (hk : k < Config.nc) (w : Word) :
    (convSubblock cfg c ch d).tail.getD k w =
      F32.settle (d + 4 * Config.nc + k)
        ((overlapTail ch.tail (ifft cfg Config.nc (storedSpectrum (d + 2 * Config.nc)
          (partitionSum c.parts c.pos (convSubblock cfg c ch d).fdl c.irSpec)))).getD k w) :=
  F32.settleList_getD _ _ _ _ (by simpa [overlapTail] using hk)

theorem convEndSample_full {c : Conv} (h : c.fill + 1 = Config.hc) :
    convEndSample cfg c d =
      ({ c with
          left := convSubblock cfg c c.left d
          right := convSubblock cfg c c.right (d + subblockDraws)
          pos := (c.pos + 1) % c.parts
          fill := 0 }, d + 2 * subblockDraws) := by
  rw [convEndSample, if_pos h]

end

/-- Settles O29: the two channels' steps are one step at two draw counts; the sums are its partial sums. -/
theorem convSubblockStep : Obligations.ConvSubblockStep := by
  intro cfg c d h
  rw [convEndSample_full cfg d h]
  refine ⟨rfl, rfl, rfl, rfl, rfl, rfl, rfl, fun ch nx at0 hmem => ?_⟩
  have hnx : nx = convSubblock cfg c ch at0 := by
    simp only [List.mem_cons, Prod.mk.injEq, List.not_mem_nil, or_false] at hmem
    rcases hmem with ⟨rfl, rfl, rfl⟩ | ⟨rfl, rfl, rfl⟩ <;> rfl
  subst hnx
  refine ⟨convSubblock_fdl cfg c ch at0, partialSum c.parts c.pos (convSubblock cfg c ch at0).fdl c.irSpec, rfl,
    fun p _ => partialSum_succ _ _ _ _ _, fun k hk => ?_⟩
  rw [convSubblock_tail_getD cfg c ch at0 hk, overlapTail_getD _ _ hk, partitionSum_eq_partialSum]
  rfl

/-! ### Blocks join (R179, 44_granular.md R198, 45_spectral.md R217) -/

/-- A block of the convolution engine, cut in two. -/
theorem convBlock_append (cfg : Config.Numerics) (u w : Word) (xs ys : List (Word × Word)) (c : Conv) (d : Nat) :
    convBlock cfg u w (xs ++ ys) c d =
      { convBlock cfg u w ys (convBlock cfg u w xs c d).conv (convBlock cfg u w xs c d).draws with
        outL := (convBlock cfg u w xs c d).outL ++
          (convBlock cfg u w ys (convBlock cfg u w xs c d).conv (convBlock cfg u w xs c d).draws).outL
        outR := (convBlock cfg u w xs c d).outR ++
          (convBlock cfg u w ys (convBlock cfg u w xs c d).conv (convBlock cfg u w xs c d).draws).outR } := by
  induction xs generalizing c d with
  | nil => rfl
  | cons x xs ih => simp only [List.cons_append, convBlock, ih]

/-- A run of the granular engine, cut in two. -/
theorem granBlock_add (s : State) (p : GranParams) (m n : Nat) (g : Gran) (d : Nat) :
    granBlock s p (m + n) g d =
      { granBlock s p n (granBlock s p m g d).gran (granBlock s p m g d).draws with
        outL := (granBlock s p m g d).outL ++
          (granBlock s p n (granBlock s p m g d).gran (granBlock s p m g d).draws).outL
        outR := (granBlock s p m g d).outR ++
          (granBlock s p n (granBlock s p m g d).gran (granBlock s p m g d).draws).outR } := by
  induction m generalizing g d with
  | zero =>
    rw [Nat.zero_add]
    rfl
  | succ m ih => simp only [Nat.succ_add, List.cons_append, granBlock, ih]

/-- A block of the spectral engine, cut in two. -/
theorem specBlock_append (cfg : Config.Numerics) (p : SpecParams) (xs ys : List (Word × Word)) (sp : Spec) (d : Nat) :
    specBlock cfg p (xs ++ ys) sp d =
      { specBlock cfg p ys (specBlock cfg p xs sp d).spec (specBlock cfg p xs sp d).draws with
        outL := (specBlock cfg p xs sp d).outL ++
          (specBlock cfg p ys (specBlock cfg p xs sp d).spec (specBlock cfg p xs sp d).draws).outL
        outR := (specBlock cfg p xs sp d).outR ++
          (specBlock cfg p ys (specBlock cfg p xs sp d).spec (specBlock cfg p xs sp d).draws).outR } := by
  induction xs generalizing sp d with
  | nil => rfl
  | cons x xs ih => simp only [List.cons_append, specBlock, ih]

/-- Settles O44: each engine's samples come one after the other. -/
theorem blocksJoin : Obligations.BlocksJoin :=
  ⟨convBlock_append, granBlock_add, specBlock_append⟩

end Sys2Proof.Machine

/-! PROOFS. The statements on the granular engine (44_granular.md): its source and its reset, a process command and its
parameters, the spawning of grains, and one sample of the pool. -/

namespace Sys2Proof.Machine

/-! ### GRAN_RESET and SPEC_RESET (R205, 45_spectral.md R226) -/

theorem Gran.activeCount_eq_zero {g : Gran} (h : ∀ x ∈ g.grains, x.active = false) : g.activeCount = 0 :=
  List.countP_eq_zero.2 fun x hx => by simp [h x hx]

/-- Settles O25: each reset is its one write, and no grain of a silenced pool is counted. -/
theorem granAndSpecResetComplete : Obligations.GranAndSpecResetComplete := by
  refine fun s => ⟨fun hr => ?_, fun hr => ⟨⟨_, whenReady_true hr, ?_, rfl⟩, whenReady_true hr⟩⟩
  · exact List.forall_mem_cons.2 ⟨exec_notReady nofun nofun nofun hr,
      List.forall_mem_singleton.2 (exec_notReady nofun nofun nofun hr)⟩
  · exact congrArg (BitVec.ofNat 32) (Gran.activeCount_eq_zero fun _ => silenced_inactive)

/-! ### GRAN_LOAD_SOURCE (R196) -/

/-- The frames kept: as many as the SRC region holds. -/
theorem srcFramesKept_eq (len : Nat) {ch : Nat} (hch : ch = 1 ∨ ch = 2) :
    srcFramesKept len ch = min len (if ch = 1 then 882000 else 441000) := by
  rcases hch with rfl | rfl <;> rfl

section
variable {s : State}

theorem execGranLoadSource_badChannelCount (hr : s.ready = true) (hch : channelCountOk s.arg1 = false) :
    execGranLoadSource s = .next (raiseRC .badChannelCount s) := by
  rw [execGranLoadSource, whenReady_true hr, require_false hch]

theorem execGranLoadSource_completes (hr : s.ready = true) (hch : channelCountOk s.arg1 = true) :
    execGranLoadSource s =
      .next (finishTrunc (decide (srcFramesKept s.arg0.toNat s.arg1.toNat < s.arg0.toNat))
        (BitVec.ofNat 32 (srcFramesKept s.arg0.toNat s.arg1.toNat)) s.arg1
        (srcLoadedState s s.arg0.toNat s.arg1.toNat)) := by
  rw [execGranLoadSource, whenReady_true hr, require_true hch]

end

/-- Settles O31: the two failures, and the record of the source that a load leaves. -/
theorem granLoadSourceMeaning : Obligations.GranLoadSourceMeaning := by
  refine fun s => ⟨exec_notReady nofun nofun nofun, fun hr h1 h2 => ?_, fun hr hch => ?_⟩
  · exact execGranLoadSource_badChannelCount hr
      (eq_false_of_ne_true (mt (channelCountOk_iff _).1 (not_or.2 ⟨h1, h2⟩)))
  · rw [exec_granLoadSource, execGranLoadSource_completes hr ((channelCountOk_iff _).2 hch), srcLoadedState,
      srcFramesKept_eq _ hch]
    rfl

/-! ### GRAN_PROCESS as a command (R197, R198, R204) -/

/-- Settles O34: the parameters are the clamped arguments and what is computed of them. -/
theorem processParameters : Obligations.ProcessParameters :=
  ⟨fun _ => rfl, fun _ => ⟨rfl, rfl, rfl, rfl⟩⟩

/-- Settles O32: the output blocks are runs of +0.0. -/
theorem granProcessIsSilentWithoutSource : Obligations.GranProcessIsSilentWithoutSource := by
  intro s hr hl hb
  have hout : WroteOutputs s (finish 0#32 0#32 (granSilence s)) _ _ :=
    wroteOutputs_finish hb List.length_replicate List.length_replicate s.conv s.gran s.spec s.nanDraws
  exact ⟨_, execGranProcess_unloaded hr hl hb,
    hout.congr (fun _ hk => List.getD_replicate _ hk) (fun _ hk => List.getD_replicate _ hk), rfl⟩

/-- Settles O33: the block's run gives one word per sample and channel, and the engine and the draws after it. -/
theorem granProcessCompletes : Obligations.GranProcessCompletes := by
  intro s hr hl hb hsrc run
  obtain ⟨-, -, -, hlenL, hlenR⟩ := granBlock_frame s (granParams s) s.blockSize s.gran s.nanDraws
  exact ⟨_, execGranProcess_loaded hr hl hb hsrc,
    wroteOutputs_finish hb hlenL hlenR s.conv run.gran s.spec run.draws, rfl⟩

/-! ### Spawning (R199, R201) -/

section
variable (cfg : Config.Numerics) (p : GranParams) {g : Gran}

/-- With a full pool nothing is spawned and nothing is drawn. -/
theorem granSpawn_full (h : ∀ x ∈ g.grains, x.active = true) : granSpawn cfg p g = g := by
  have hnone : g.grains.findIdx? (fun x => !x.active) = none :=
    List.findIdx?_eq_none_iff.2 fun x hx => by simp [h x hx]
  rw [granSpawn, hnone]

/-- The first inactive grain of the pool is record `n`. -/
def FirstFree (gs : List Grain) (n : Nat) : Prop :=
  ∃ hn : n < gs.length, gs[n].active = false ∧ ∀ m (hm : m < n), gs[m].active = true

/-- The search through the pool finds its first inactive grain. -/
theorem findIdx?_inactive_iff (gs : List Grain) (n : Nat) :
    gs.findIdx? (fun x => !x.active) = some n ↔ FirstFree gs n := by
  simp [List.findIdx?_eq_some_iff_getElem, FirstFree]

theorem granSpawn_firstFree {n : Nat} (h : FirstFree g.grains n) :
    granSpawn cfg p g =
      { g with grains := g.grains.set n (spawnedGrain cfg p g.rng), rng := lcgAfterSpawn g.rng } := by
  rw [granSpawn, (findIdx?_inactive_iff _ _).2 h]

/-- A pool is full or has a first inactive grain. -/
theorem full_or_firstFree (gs : List Grain) : (∀ x ∈ gs, x.active = true) ∨ ∃ n, FirstFree gs n := by
  cases h : gs.findIdx? (fun x => !x.active) with
  | none => exact .inl fun x hx => by simpa using List.findIdx?_eq_none_iff.1 h x hx
  | some n => exact .inr ⟨n, (findIdx?_inactive_iff gs n).1 h⟩

/-- Writing one record of a pool makes at most one grain more active. -/
theorem countP_active_set_le (gs : List Grain) {n : Nat} (hn : n < gs.length) (x : Grain) :
    (gs.set n x).countP (fun y => y.active) ≤ gs.countP (fun y => y.active) + 1 := by
  rw [List.countP_set hn]
  split <;> split <;> omega

/-- A spawn makes at most one grain more active. -/
theorem granSpawn_activeCount_le (g : Gran) : (granSpawn cfg p g).activeCount ≤ g.activeCount + 1 := by
  rcases full_or_firstFree g.grains with hfull | ⟨n, hfree⟩
  · rw [granSpawn_full cfg p hfull]
    exact Nat.le_succ _
  · rw [granSpawn_firstFree cfg p hfree]
    exact countP_active_set_le g.grains hfree.1 _

/-- The accumulator has reached the interval: it is subtracted once, and one spawn is attempted. -/
theorem granTick_reached {d : Nat} (h : F32.le p.interval (F32.add g.acc F32.one) = true) :
    granTick cfg p g d =
      granSpawn cfg p { g with acc := F32.settle d (F32.sub (F32.add g.acc F32.one) p.interval) } := by
  rw [granTick, if_pos h]

/-- Short of the interval the accumulator only advances. -/
theorem granTick_short {d : Nat} (h : F32.le p.interval (F32.add g.acc F32.one) = false) :
    granTick cfg p g d = { g with acc := F32.settle d (F32.add g.acc F32.one) } := by
  rw [granTick, if_neg (Bool.eq_false_iff.1 h)]

end

/-- Settles O35: the search finds the first inactive grain, whose record is the spawned grain's. -/
theorem granSpawnTakesTheFirstFreeGrain : Obligations.GranSpawnTakesTheFirstFreeGrain := by
  refine fun cfg p g => ⟨granSpawn_full cfg p, fun n hn hfree hbefore => ?_⟩
  have hfirst : FirstFree g.grains n := by
    refine ⟨hn, ?_, fun m hm => ?_⟩
    · rwa [List.getD_eq_getElem _ _ hn] at hfree
    · have hactive := hbefore m hm
      rwa [List.getD_eq_getElem _ _ (hm.trans hn)] at hactive
  exact granSpawn_firstFree cfg p hfirst

/-- Settles O36: the two cases of the tick; it spawns in one of them, once. -/
theorem granSpawnTiming : Obligations.GranSpawnTiming := by
  intro cfg p g d acc
  refine ⟨granTick_reached cfg p, granTick_short cfg p, ?_⟩
  cases hacc : F32.le p.interval acc with
  | true =>
    rw [granTick_reached cfg p hacc]
    exact granSpawn_activeCount_le cfg p _
  | false =>
    rw [granTick_short cfg p hacc]
    exact Nat.le_succ _

/-! ### One sample of the pool (R198, R200, R202, R203) -/

section
variable (s : State) (g : Gran)

theorem srcRead_mono (h : g.srcChannels = 1) (i : Nat) : srcRead s g i = s.readWord (regionSrc.base + 4 * i) :=
  if_pos h

theorem srcRead_stereo (h : g.srcChannels = 2) (i : Nat) : srcRead s g i = stereoFrame s regionSrc.base i :=
  if_neg (by simp [h])

variable {x : Grain} (xs : List Grain) (l r : Word) (d : Nat)

theorem granMix_cons_inactive (h : x.active = false) :
    granMix s g (x :: xs) l r d =
      { granMix s g xs l r d with grains := x :: (granMix s g xs l r d).grains } := by
  rw [granMix, if_neg (Bool.eq_false_iff.1 h)]

/-- The mix of a pool whose first grain is active: both channels take its voice, panned. -/
theorem granMix_cons_active (h : x.active = true) :
    granMix s g (x :: xs) l r d =
      let rest := granMix s g xs
        (F32.add l (F32.mul (grainVoice s g x) (F32.sqrt (F32.sub F32.one (grainPan x)))))
        (F32.add r (F32.mul (grainVoice s g x) (F32.sqrt (grainPan x)))) (d + 2)
      { rest with grains := grainAdvance g.srcFrames d x :: rest.grains } := by
  rw [granMix, if_pos h]

/-- A grain goes inactive exactly when its advanced phase or position has reached 1.0 (R202). -/
theorem grainAdvance_inactive_iff (srcFrames d : Nat) (x : Grain) :
    (grainAdvance srcFrames d x).active = false ↔
      F32.le F32.one (grainAdvance srcFrames d x).phase = true ∨
      F32.le F32.one (grainAdvance srcFrames d x).pos = true := by
  simp only [grainAdvance, Bool.not_eq_false', Bool.or_eq_true]

end

/-- Settles O37: the equations of the source's frames, of the mix and of the block, and the advance of a grain. -/
theorem granSampleRendersThenAdvances : Obligations.GranSampleRendersThenAdvances := by
  refine ⟨fun s g i => ⟨fun h => srcRead_mono s g h i, fun h => srcRead_stereo s g h i⟩, fun _ _ _ _ _ => rfl,
    fun s g x xs l r d => ⟨granMix_cons_inactive s g xs l r d, fun h => ?_⟩, fun _ _ _ _ => ⟨rfl, fun _ => rfl⟩⟩
  exact ⟨grainAdvance g.srcFrames d x, granMix_cons_active s g xs l r d h, rfl, rfl,
    grainAdvance_inactive_iff g.srcFrames d x, rfl, rfl, rfl, rfl⟩

end Sys2Proof.Machine

/-! PROOFS. The statements on the spectral engine (45_spectral.md): SPEC_PROCESS as a command, the samples of a hop and
the one that completes it, the freeze flags, and the steps of a frame. -/

namespace Sys2Proof.Machine

/-! ### SPEC_PROCESS as a command (R217) -/

/-- The run of SPEC_PROCESS's block through the engine. -/
def specRun (s : State) : SpecRun :=
  specBlock s.numerics (specParams s) (inputBlock s) (unfrozen (specParams s).freeze s.spec) s.nanDraws

theorem specProcessed_eq (s : State) :
    specProcessed s = { writeOutputs s (specRun s).outL (specRun s).outR with
      spec := (specRun s).spec, nanDraws := (specRun s).draws } := rfl

theorem specRun_length (s : State) :
    (specRun s).outL.length = s.blockSize ∧ (specRun s).outR.length = s.blockSize := by
  simp [specRun]

/-- Settles O38: the block's run gives one word per sample and channel, and the engine and the draws after it. -/
theorem specProcessCompletes : Obligations.SpecProcessCompletes := by
  intro s hr hb p cleared run
  have hrun : run = specRun s := rfl
  obtain ⟨hlenL, hlenR⟩ := specRun_length s
  rw [hrun]
  refine ⟨⟨inputBlock_length s, inputBlock_getElem? s⟩, _, execSpecProcess_completes hr hb, ?_, ?_⟩
  · exact wroteOutputs_finish hb hlenL hlenR _ _ _ _
  · rw [specProcessed_eq]
    rfl

/-! ### One sample, within a hop and at its end (R217) -/

section
variable (cfg : Config.Numerics) (p : SpecParams)

theorem specEndSample_within {sp : Spec} (h : sp.fill + 1 ≠ Config.hs) (d : Nat) :
    specEndSample cfg p sp d = ({ sp with fill := sp.fill + 1 }, d) := by
  rw [specEndSample, if_neg h]

/-- The engine after both channels' frames. -/
def Spec.framed (sp : Spec) (d : Nat) : Spec :=
  { left := specFrame cfg p sp.left d, right := specFrame cfg p sp.right (d + frameDraws), fill := 0 }

theorem specEndSample_full {sp : Spec} (h : sp.fill + 1 = Config.hs) (d : Nat) :
    specEndSample cfg p sp d = (sp.framed cfg p d, d + 2 * frameDraws) := by
  rw [specEndSample, if_pos h, Spec.framed]

/-! ### Samples that do not fill the hop (R217) -/

/-- The engine when samples have arrived that do not fill the hop: their words enter the newest hop of the sliding
buffers. -/
def Spec.entered (sp : Spec) (xs : List (Word × Word)) : Spec :=
  { left := { sp.left with inBuf := enterWords (1536 + sp.fill) (xs.map Prod.fst) sp.left.inBuf }
    right := { sp.right with inBuf := enterWords (1536 + sp.fill) (xs.map Prod.snd) sp.right.inBuf }
    fill := sp.fill + xs.length }

theorem Spec.entered_cons (sp : Spec) (x : Word × Word) (xs : List (Word × Word)) :
    sp.entered (x :: xs) = (sp.taken x).entered xs := by
  have hfill : sp.fill + (xs.length + 1) = sp.fill + 1 + xs.length := by omega
  have hnewest : Config.ns - Config.hs = 1536 := rfl
  simp [Spec.entered, Spec.taken, specPush, enterWords, hfill, hnewest, Nat.add_assoc]

/-- A block that does not fill the hop only enters it. -/
theorem specBlock_entered {xs : List (Word × Word)} {sp : Spec} (h : sp.fill + xs.length < Config.hs) (d : Nat) :
    (specBlock cfg p xs sp d).spec = sp.entered xs ∧ (specBlock cfg p xs sp d).draws = d := by
  induction xs generalizing sp with
  | nil => exact ⟨rfl, rfl⟩
  | cons x xs ih =>
    rw [List.length_cons] at h
    have hrest : (sp.taken x).fill + xs.length < Config.hs := by
      simp only [Spec.taken]
      omega
    rw [specBlock_cons_within_hop cfg p x xs (by omega), sp.entered_cons]
    exact ih hrest

/-- Up to the end of the hop the outputs are the words of the rings, whatever stands for a missing output. -/
theorem specBlock_getD_within {xs : List (Word × Word)} {sp : Spec} (d : Nat) {k : Nat} (hk : k < xs.length)
    (hf : sp.fill + k < Config.hs) (w : Word) :
    (specBlock cfg p xs sp d).outL.getD k w = sp.left.outRing.getD (sp.fill + k) F32.zero ∧
    (specBlock cfg p xs sp d).outR.getD k w = sp.right.outRing.getD (sp.fill + k) F32.zero := by
  obtain ⟨hlenL, hlenR⟩ := specBlock_length cfg p xs sp d
  have hout := specBlock_getD_within_hop cfg p d hk hf
  have hkL : k < (specBlock cfg p xs sp d).outL.length := hlenL ▸ hk
  have hkR : k < (specBlock cfg p xs sp d).outR.length := hlenR ▸ hk
  rw [List.getD_eq_getElem _ _ hkL, List.getD_eq_getElem _ _ hkR] at hout ⊢
  exact hout

/-- Before its first frame a cleared engine gives +0.0 (R216). -/
theorem specBlock_specClear_getD {xs : List (Word × Word)} (d : Nat) {k : Nat} (hk : k < xs.length)
    (hhop : k < Config.hs) (w : Word) :
    (specBlock cfg p xs specClear d).outL.getD k w = F32.zero ∧
    (specBlock cfg p xs specClear d).outR.getD k w = F32.zero := by
  have hfill : specClear.fill + k < Config.hs := by rwa [show specClear.fill = 0 from rfl, Nat.zero_add]
  obtain ⟨houtL, houtR⟩ := specBlock_getD_within cfg p d hk hfill w
  exact ⟨houtL.trans (SpecChan.zero_outRing_getD _), houtR.trans (SpecChan.zero_outRing_getD _)⟩

end

/-- Settles O39: the outputs up to the end of the hop, the words that entered it, one sample, and a cleared ring. -/
theorem specWithinHop : Obligations.SpecWithinHop := by
  refine ⟨fun cfg p xs sp d h => ?_, fun cfg p x sp d => ⟨rfl, rfl, rfl⟩,
    fun cfg p sp d h => specEndSample_within cfg p h d,
    fun cfg p xs d k hk hhop => specBlock_specClear_getD cfg p d hk hhop _⟩
  intro run
  obtain ⟨hspec, hdraws⟩ : run.spec = sp.entered xs ∧ run.draws = d := specBlock_entered cfg p h d
  refine ⟨fun k hk => specBlock_getD_within cfg p d hk (Nat.lt_trans (Nat.add_lt_add_left hk _) h) _, hdraws, ?_,
    fun j hj => ?_, fun j hj => ?_⟩
  · rw [hspec]
    rfl
  · rw [hspec, ← List.getD_map (f := Prod.fst), Nat.sub_sub]
    simpa [Spec.entered] using enterWords_getD (fill := 1536 + sp.fill) (xs.map Prod.fst) hj 0#32
  · rw [hspec, ← List.getD_map (f := Prod.snd), Nat.sub_sub]
    simpa [Spec.entered] using enterWords_getD (fill := 1536 + sp.fill) (xs.map Prod.snd) hj 0#32

/-! ### The freeze flags (R215, R222) -/

theorem F32.le_of_eq {a b : Word} (h : F32.eq a b = true) : F32.le a b = true := by
  obtain ⟨ha, hb, hval⟩ := (F32.eq_iff a b).1 h
  exact (F32.le_iff a b).2 ⟨ha, hb, Int.le_of_eq hval⟩

theorem F32.eq_eq_false_of_lt {a b : Word} (h : F32.lt b a = true) : F32.eq a b = false := by
  refine eq_false_of_ne_true fun heq => ?_
  rw [F32.lt_eq_false_of_le (F32.le_of_eq heq)] at h
  exact Bool.false_ne_true h

/-- Clearing at amount 0, and only there (R215). -/
theorem unfrozen_frozen (fa : Word) (sp : Spec) :
    (unfrozen fa sp).left.frozen = (sp.left.frozen && !F32.eq fa F32.zero) ∧
    (unfrozen fa sp).right.frozen = (sp.right.frozen && !F32.eq fa F32.zero) := by
  unfold unfrozen
  split <;> simp [*]

section
variable (cfg : Config.Numerics) (p : SpecParams)

/-- The engine when a sample's words have entered the sliding buffers. -/
def Spec.pushed (sp : Spec) (x : Word × Word) : Spec :=
  { sp with left := specPush sp.fill x.1 sp.left, right := specPush sp.fill x.2 sp.right }

/-- A sample that completes the hop runs both frames. -/
theorem specBlock_cons_full_spec (x : Word × Word) (xs : List (Word × Word)) {sp : Spec}
    (h : sp.fill + 1 = Config.hs) (d : Nat) :
    (specBlock cfg p (x :: xs) sp d).spec =
      (specBlock cfg p xs ((sp.pushed x).framed cfg p d) (d + 2 * frameDraws)).spec := by
  have hend : specEndSample cfg p (sp.pushed x) d = ((sp.pushed x).framed cfg p d, d + 2 * frameDraws) :=
    specEndSample_full cfg p (sp := sp.pushed x) h d
  calc (specBlock cfg p (x :: xs) sp d).spec
      = (specBlock cfg p xs (specEndSample cfg p (sp.pushed x) d).1 (specEndSample cfg p (sp.pushed x) d).2).spec := rfl
    _ = _ := by rw [hend]

/-- The frames of a completed hop set both flags when the amount is above 0. -/
theorem Spec.pushed_framed_frozen (sp : Spec) (x : Word × Word) (d : Nat) :
    ((sp.pushed x).framed cfg p d).left.frozen = (sp.left.frozen || F32.lt F32.zero p.freeze) ∧
    ((sp.pushed x).framed cfg p d).right.frozen = (sp.right.frozen || F32.lt F32.zero p.freeze) :=
  ⟨specFrame_frozen cfg p (sp.pushed x).left d, specFrame_frozen cfg p (sp.pushed x).right (d + frameDraws)⟩

/-- A block sets both flags exactly if it completes a hop at an amount above 0 (R222). -/
theorem specBlock_frozen (xs : List (Word × Word)) {sp : Spec} (h : sp.fill < Config.hs) (d : Nat) :
    (specBlock cfg p xs sp d).spec.left.frozen =
      (sp.left.frozen || F32.lt F32.zero p.freeze && decide (Config.hs ≤ sp.fill + xs.length)) ∧
    (specBlock cfg p xs sp d).spec.right.frozen =
      (sp.right.frozen || F32.lt F32.zero p.freeze && decide (Config.hs ≤ sp.fill + xs.length)) := by
  induction xs generalizing sp d with
  | nil => simp [specBlock, h]
  | cons x xs ih =>
    rw [List.length_cons]
    by_cases hfull : sp.fill + 1 = Config.hs
    · have hhop : Config.hs ≤ sp.fill + (xs.length + 1) := by omega
      obtain ⟨hsetL, hsetR⟩ := sp.pushed_framed_frozen cfg p x d
      obtain ⟨hl, hr⟩ := ih (sp := (sp.pushed x).framed cfg p d) (Nat.succ_pos _) (d + 2 * frameDraws)
      rw [specBlock_cons_full_spec cfg p x xs hfull, hl, hr, hsetL, hsetR, decide_eq_true hhop, Bool.and_true]
      cases F32.lt F32.zero p.freeze with
      | true => simp
      | false => simp
    · have hfill : sp.fill + (xs.length + 1) = (sp.taken x).fill + xs.length := by
        simp only [Spec.taken]
        omega
      have hshort : (sp.taken x).fill < Config.hs := Nat.lt_of_le_of_ne h hfull
      rw [specBlock_cons_within_hop cfg p x xs hfull, hfill]
      exact ih hshort d

end

/-- What SPEC_PROCESS leaves in the engine when it completes. -/
theorem execSpecProcess_spec {s t : State} (hr : s.ready = true) (h : execSpecProcess s = .next t) :
    t.spec = (specRun s).spec := by
  rw [execSpecProcess, whenReady_true hr] at h
  obtain ⟨-, hnext⟩ := requireDecoded_cases h
  injection hnext with ht
  rw [← ht]
  rfl

/-- Settles O40: the flags after the clearing, and what the block adds to them. -/
theorem specFreezeFlags : Obligations.SpecFreezeFlags := by
  intro s t hr hfill hexec
  obtain ⟨hclearL, hclearR⟩ := unfrozen_frozen (specParams s).freeze s.spec
  obtain ⟨-, -, hkept⟩ := unfrozen_rings (specParams s).freeze s.spec
  obtain ⟨hflagL, hflagR⟩ := specBlock_frozen s.numerics (specParams s) (inputBlock s) (hkept ▸ hfill) s.nanDraws
  rw [hkept, inputBlock_length] at hflagL hflagR
  rw [execSpecProcess_spec hr hexec, specRun, hflagL, hflagR, hclearL, hclearR]
  refine ⟨fun hzero => ?_, fun habove => ?_⟩
  · have hlt : F32.lt F32.zero (specParams s).freeze = false := F32.lt_eq_false_of_le (F32.le_of_eq hzero)
    have heq : F32.eq (specParams s).freeze F32.zero = true := hzero
    simp [hlt, heq]
  · have hlt : F32.lt F32.zero (specParams s).freeze = true := habove
    have heq : F32.eq (specParams s).freeze F32.zero = false := F32.eq_eq_false_of_lt hlt
    have hhop : Config.hs = 512 := rfl
    simp [hlt, heq, hhop]

/-! ### The freeze step, the shift step and the phase vocoder (R220, R221, R223) -/

/-- Bin k of a list of computed bins, as it is stored. -/
theorem settleList_tabulate_getD (d n : Nat) (f : Nat → Word) {k : Nat} (hk : k < n) (w : Word) :
    (F32.settleList d (tabulate n f)).getD k w = F32.settle (d + k) (f k) := by
  rw [settleList_tabulate, tabulate_getD _ _ _ _ hk]

section
variable {fa : Word} (ch : SpecChan) (m : Polar) (d : Nat)

theorem freezeStep_off (h : F32.lt F32.zero fa = false) : freezeStep fa ch m d = (ch, m) := by
  rw [freezeStep, if_neg (Bool.eq_false_iff.1 h)]

theorem freezeStep_on (h : F32.lt F32.zero fa = true) :
    freezeStep fa ch m d = (captured ch m, frozenBlend fa (captured ch m) m d) := by
  rw [freezeStep, if_pos h]

/-- The capture, field by field: the snapshot of a frozen channel stays. -/
theorem captured_eq :
    captured ch m =
      { ch with
        frozen := true
        frozenMag := if ch.frozen = true then ch.frozenMag else m.mag
        frozenPhase := if ch.frozen = true then ch.frozenPhase else m.phase } := by
  unfold captured
  split
  · rename_i hfrozen
    rw [← hfrozen]
  · rfl

theorem frozenBlend_getD {k : Nat} (hk : k < Config.ks) (w : Word) :
    (frozenBlend fa ch m d).mag.getD k w =
      F32.settle (d + k) (F32.lerp (m.mag.getD k F32.zero) (ch.frozenMag.getD k F32.zero) fa) ∧
    (frozenBlend fa ch m d).phase.getD k w =
      F32.settle (d + Config.ks + k)
        (F32.lerp (m.phase.getD k F32.zero) (ch.frozenPhase.getD k F32.zero) (F32.mul Config.freezePhaseK fa)) := by
  simp only [frozenBlend, settleList_tabulate_getD _ _ _ hk, and_self]

end

section
variable {p : SpecParams} (m : Polar) (d : Nat)

theorem shiftStep_inactive (h : p.shiftActive = false) : shiftStep p m d = m := by
  rw [shiftStep, if_neg (Bool.eq_false_iff.1 h)]

theorem shiftStep_getD (h : p.shiftActive = true) {k : Nat} (hk : k < Config.ks) (w : Word) :
    (shiftStep p m d).mag.getD k w = F32.settle (d + k) (shiftedBin p.ratio m.mag k) ∧
    (shiftStep p m d).phase.getD k w = F32.settle (d + Config.ks + k) (shiftedBin p.ratio m.phase k) := by
  simp only [shiftStep, if_pos h, settleList_tabulate_getD _ _ _ hk, and_self]

/-- A destination bin whose source lies beyond bin 1024 is silent. -/
theorem shiftedBin_beyond {r : Word} (xs : List Word) {k : Nat}
    (h : F32.lt (F32.ofNat 1024) (F32.div (F32.ofNat k) r) = true) : shiftedBin r xs k = F32.zero := by
  rw [shiftedBin, if_pos h]

/-- A destination bin interpolates between the two bins around its source. -/
theorem shiftedBin_inside {r : Word} (xs : List Word) {k : Nat}
    (h : F32.lt (F32.ofNat 1024) (F32.div (F32.ofNat k) r) = false) :
    shiftedBin r xs k =
      let sb := F32.div (F32.ofNat k) r
      let i0 := min (F32.toIndex (F32.floor sb)) 1023
      F32.lerp (xs.getD i0 F32.zero) (xs.getD (i0 + 1) F32.zero) (F32.sub sb (F32.ofNat i0)) := by
  rw [shiftedBin, if_neg (Bool.eq_false_iff.1 h)]

end

/-- Settles O41: the two cases of each step, and the bins that the active one computes. -/
theorem specFreezeAndShiftSteps : Obligations.SpecFreezeAndShiftSteps := by
  refine ⟨fun fa ch m d => ⟨freezeStep_off ch m d, fun h => ?_⟩,
    fun p m d => ⟨shiftStep_inactive m d, fun h k hk => ⟨fun hbeyond => ?_, fun hinside => ?_⟩⟩⟩
  · rw [freezeStep_on ch m d h]
    exact ⟨captured_eq ch m, fun k hk => frozenBlend_getD (captured ch m) m d hk _⟩
  · obtain ⟨hmag, hphase⟩ := shiftStep_getD m d h hk 0x1#32
    rw [hmag, hphase, shiftedBin_beyond _ hbeyond, shiftedBin_beyond _ hbeyond]
    exact ⟨F32.settle_of_not_nan rfl _, F32.settle_of_not_nan rfl _⟩
  · obtain ⟨hmag, hphase⟩ := shiftStep_getD m d h hk 0#32
    rw [hmag, hphase, shiftedBin_inside _ hinside, shiftedBin_inside _ hinside]
    exact ⟨rfl, rfl⟩

theorem vocoded_getD (rEff : Word) (ch : SpecChan) (phase : List Word) (d : Nat) {k : Nat} (hk : k < Config.ks)
    (w : Word) :
    (vocoded rEff ch phase d).getD k w =
      F32.settle (d + k) (vocodedPhase rEff k (ch.prevPhase.getD k F32.zero) (ch.synthPhase.getD k F32.zero)
        (phase.getD k F32.zero)) :=
  settleList_tabulate_getD d _ _ hk w

/-- Settles O42: bin k of the new synthesis phases, with `wrapPi` written out. -/
theorem specPhaseVocoder : Obligations.SpecPhaseVocoder :=
  fun r ch phase d _ hk => vocoded_getD r ch phase d hk _

/-! ### Analysis (R219) -/

/-- The settled analysis frame as the transform takes it. -/
theorem settled_windowed_ofReal (inBuf : List Word) (d : Nat) :
    (F32.settleList d (windowed inBuf)).map C32.ofReal =
      tabulate Config.ns (fun n =>
        C32.ofReal (F32.settle (d + n) (F32.mul (inBuf.getD n F32.zero) (hannWindow n)))) := by
  rw [windowed, settleList_tabulate, map_tabulate]

theorem toPolar_eq (cfg : Config.Numerics) (x : List C32) (d : Nat) :
    toPolar cfg x d =
      { mag := tabulate Config.ks (fun k => F32.settle (d + k) (binMag (x.getD k C32.zero)))
        phase := tabulate Config.ks (fun k =>
          F32.settle (d + Config.ks + k) (F32.atan2 cfg (x.getD k C32.zero).im (x.getD k C32.zero).re)) } := by
  rw [toPolar, settleList_tabulate, settleList_tabulate]

/-! ### Resynthesis (R224) -/

section
variable (cfg : Config.Numerics) (mag synth : List Word) (d : Nat)

theorem C32.conj_parts (z : C32) : (C32.conj z).re = z.re ∧ (C32.conj z).im = F32.neg z.im := ⟨rfl, rfl⟩

/-- The lower bins of the resynthesis spectrum, as stored. -/
def resynthLower : List C32 := C32.settleList d (tabulate Config.ks (resynthBin cfg mag synth))

theorem resynthLower_getD {k : Nat} (hk : k < Config.ks) (z : C32) :
    (resynthLower cfg mag synth d).getD k z =
      ⟨F32.settle (d + 2 * k) (resynthBin cfg mag synth k).re,
        F32.settle (d + 2 * k + 1) (resynthBin cfg mag synth k).im⟩ := by
  rw [resynthLower, C32.settleList_getD _ _ _ _ (by simpa using hk), tabulate_getD _ _ _ _ hk]

theorem resynthSpectrum_getD_lower {k : Nat} (hk : k < Config.ks) (z : C32) :
    (resynthSpectrum cfg mag synth d).getD k z = (resynthLower cfg mag synth d).getD k C32.zero := by
  rw [resynthSpectrum, tabulate_getD _ _ _ _ (Nat.lt_trans hk (by decide)), if_pos hk]
  rfl

theorem resynthSpectrum_getD_upper {k : Nat} (hk : Config.ks ≤ k) (hn : k < Config.ns) (z : C32) :
    (resynthSpectrum cfg mag synth d).getD k z =
      C32.conj ((resynthLower cfg mag synth d).getD (Config.ns - k) C32.zero) := by
  rw [resynthSpectrum, tabulate_getD _ _ _ _ hn, if_neg (Nat.not_lt.2 hk)]
  rfl

/-- A lower bin: DC and Nyquist are real, and their zero draws no pattern. -/
theorem resynthSpectrum_getD {k : Nat} (hk : k < Config.ks) (z : C32) :
    (resynthSpectrum cfg mag synth d).getD k z =
      { re := F32.settle (d + 2 * k) (F32.mul (mag.getD k F32.zero) (F32.cos cfg (synth.getD k F32.zero)))
        im := if k = 0 ∨ k = 1024 then F32.zero
              else F32.settle (d + 2 * k + 1)
                (F32.mul (mag.getD k F32.zero) (F32.sin cfg (synth.getD k F32.zero))) } := by
  rw [resynthSpectrum_getD_lower cfg mag synth d hk, resynthLower_getD cfg mag synth d hk]
  have hnyquist : Config.ns / 2 = 1024 := rfl
  simp only [resynthBin, hnyquist]
  split
  · rw [F32.settle_of_not_nan (w := F32.zero) rfl]
  · rfl

/-- An upper bin is the conjugate of the lower bin it mirrors. -/
theorem resynthSpectrum_getD_mirror {k : Nat} (h1 : 1 ≤ k) (hk : k < 1024) (z : C32) :
    (resynthSpectrum cfg mag synth d).getD (2048 - k) z =
      C32.conj ((resynthSpectrum cfg mag synth d).getD k z) := by
  have hks : Config.ks = 1025 := rfl
  have hns : Config.ns = 2048 := rfl
  have hmirror : Config.ns - (2048 - k) = k := by omega
  rw [resynthSpectrum_getD_upper _ _ _ _ (by omega) (by omega), resynthSpectrum_getD_lower _ _ _ _ (by omega), hmirror]

end

/-! ### Overlap-add (R225) -/

section
variable (ring frame : List Word) (d : Nat)

/-- The lower half of the ring: the frame is added to the shifted ring. -/
theorem overlapRing_getD_lower {k : Nat} (hk : k < Config.ns) (w : Word) :
    (overlapRing ring frame d).getD k w =
      F32.settle (d + k) (F32.add (ring.getD (k + Config.hs) F32.zero) (frame.getD k F32.zero)) := by
  rw [overlapRing, List.getD_append _ _ _ _ (by simpa using hk), settleList_tabulate_getD _ _ _ hk]

/-- The upper half of the ring is shifted and zero-filled: beyond its end the ring reads +0.0. -/
theorem overlapRing_getD_upper (hring : ring.length = Config.outRing) {k : Nat} (hk : Config.ns ≤ k)
    (hr : k < Config.outRing) (w : Word) :
    (overlapRing ring frame d).getD k w = ring.getD (k + Config.hs) F32.zero := by
  rw [overlapRing, List.getD_append_right _ _ _ _ (by simpa using hk), F32.settleList_length, tabulate_length,
    tabulate_getD _ _ _ _ (by omega), Nat.sub_add_cancel hk]
  split
  · rfl
  · exact (List.getD_eq_default _ _ (by omega)).symm

end

/-! ### The whole frame (R219 to R225) -/

/-- The steps of a frame in their order, with the count of draws before each. -/
theorem specFrame_eq (cfg : Config.Numerics) (p : SpecParams) (ch : SpecChan) (d : Nat) :
    specFrame cfg p ch d =
      let frozen := freezeStep p.freeze ch (toPolar cfg (analysisSpectrum cfg ch.inBuf d) (d + 6144)) (d + 8194)
      let shifted := shiftStep p frozen.2 (d + 10244)
      let synth := vocoded p.effectiveRatio ch shifted.phase (d + 12294)
      { frozen.1 with
        inBuf := shiftedInput ch.inBuf
        outRing := overlapRing ch.outRing
          (resynthFrame cfg (resynthSpectrum cfg shifted.mag synth (d + 13319))) (d + 15369)
        prevPhase := shifted.phase
        synthPhase := synth } := by
  simp only [specFrame, Nat.add_assoc]
  rfl

/-- Settles O43: the full hop, the frame with its steps at their draw counts, the bins of the resynthesis, and the two
halves of the ring. -/
theorem specResynthesisAndOverlapAdd : Obligations.SpecResynthesisAndOverlapAdd := by
  refine ⟨fun cfg p sp d h => specEndSample_full cfg p (sp := sp) h d, fun cfg p ch d => ?_, fun cfg mag synth d => ?_,
    fun ring frame inBuf d hring => ⟨fun k hk => ?_, fun k hlo hhi => ?_, fun k hk => ?_⟩⟩
  · intro input x bin polar frozen shifted synth z frame
    have hpolar : toPolar cfg (analysisSpectrum cfg ch.inBuf d) (d + 6144) = polar := by
      rw [toPolar_eq, analysisSpectrum, settled_windowed_ofReal, Nat.add_assoc d 6144]
      rfl
    rw [specFrame_eq, hpolar]
    rfl
  · refine ⟨tabulate_length _ _, fun k hk => resynthSpectrum_getD cfg mag synth d hk _, fun k h1 hk => ?_⟩
    rw [resynthSpectrum_getD_mirror cfg mag synth d h1 hk]
    exact C32.conj_parts _
  · exact overlapRing_getD_lower ring frame d hk _
  · exact overlapRing_getD_upper ring frame d hring hlo hhi _
  · exact tabulate_getD _ _ _ _ hk

end Sys2Proof.Machine

/-! PROOFS. The statements on the exceptional conditions (60_exceptions.md): the result codes a command can end with, and
what a failing one leaves alone. -/

namespace Sys2Proof.Machine

/-! ### How a command can end (R242, R243, R244) -/

/-- The codes other than OK that a command can end with, in the order of its checks (R243). -/
def failureCodes : Instr → List ResultCode
  | .nop | .cleanup => []
  | .init => [.badRate, .badBlock]
  | .getInputBuffer | .getOutputBuffer => [.notInit, .badChannel]
  | .convLoadIr | .granLoadSource => [.notInit, .badChannelCount]
  | .envLookup | .convProcess | .convReset | .granProcess | .granReset | .specProcess | .specReset => [.notInit]
  | .bufScale | .bufAdd | .bufMix | .bufCopy | .bufClear | .bufInterleave | .bufDeinterleave | .bufGainRamp
  | .bufSoftClip | .bufHardClip | .bufDcRemove | .bufFindPeak => [.notInit, .badSpan]

/-- An outcome that, where it is a next state, is the failure of `s` with one of `codes`, or ends with OK. -/
def FailsOnlyWith (s : State) (codes : List ResultCode) (o : Result) : Prop :=
  ∀ t, o = .next t → FailedWith s t codes ∨ t.rc = .ok

section
variable {s t : State} {run : Result} {ok : Bool} {code : ResultCode} {codes : List ResultCode} {sp : Span} {i : Instr}

theorem FailedWith.cons (h : FailedWith s t codes) (code : ResultCode) : FailedWith s t (code :: codes) := by
  obtain ⟨c, hc, ht⟩ := h
  exact ⟨c, List.mem_cons_of_mem code hc, ht⟩

/-- A command that has passed its checks ends with OK (41_system.md R137). -/
theorem finishTrunc_failsOnlyWith (s u : State) (b : Bool) (r0 r1 : Word) :
    FailsOnlyWith s [] (.next (finishTrunc b r0 r1 u)) := by
  intro t h
  injection h with h
  exact .inr (h ▸ finishTrunc_rc u b r0 r1)

/-- A check of the arguments adds its code. -/
theorem require_failsOnlyWith (h : FailsOnlyWith s codes run) :
    FailsOnlyWith s (code :: codes) (require ok code s run) := by
  intro t hrun
  rcases require_cases hrun with ⟨-, ht⟩ | ⟨-, hrun⟩
  · exact .inl ⟨code, List.mem_cons_self, ht⟩
  · exact (h t hrun).imp_left (·.cons code)

/-- The readiness check adds ERR_NOT_INIT (41_system.md R136). -/
theorem whenReady_failsOnlyWith (h : FailsOnlyWith s codes run) :
    FailsOnlyWith s (.notInit :: codes) (whenReady s run) := by
  intro t hrun
  rcases whenReady_cases hrun with ⟨-, ht⟩ | ⟨-, hrun⟩
  · exact .inl ⟨.notInit, List.mem_cons_self, ht⟩
  · exact (h t hrun).imp_left (·.cons .notInit)

/-- An access outside every region is a fault and no result code (assumption 11). -/
theorem requireDecoded_failsOnlyWith (h : FailsOnlyWith s codes run) :
    FailsOnlyWith s codes (requireDecoded sp run) := by
  intro t hrun
  obtain ⟨-, hrun⟩ := requireDecoded_cases hrun
  exact h t hrun

/-- The table of R243, read off the checks each command makes before it writes. -/
theorem exec_failsOnlyWith (i : Instr) (s : State) : FailsOnlyWith s (failureCodes i) (exec i s) := by
  cases i with
  | nop | cleanup => exact finishTrunc_failsOnlyWith s _ _ _ _
  | init => exact require_failsOnlyWith (require_failsOnlyWith (finishTrunc_failsOnlyWith s _ _ _ _))
  | envLookup | convReset | granReset | specReset =>
    exact whenReady_failsOnlyWith (finishTrunc_failsOnlyWith s _ _ _ _)
  | convProcess | specProcess =>
    exact whenReady_failsOnlyWith (requireDecoded_failsOnlyWith (finishTrunc_failsOnlyWith s _ _ _ _))
  | granProcess =>
    refine whenReady_failsOnlyWith (requireDecoded_failsOnlyWith ?_)
    split
    · exact requireDecoded_failsOnlyWith (finishTrunc_failsOnlyWith s _ _ _ _)
    · exact finishTrunc_failsOnlyWith s _ _ _ _
  | _ => exact whenReady_failsOnlyWith (require_failsOnlyWith (finishTrunc_failsOnlyWith s _ _ _ _))

/-- A command ends with OK or with a code of its row. -/
theorem exec_rc_mem (h : exec i s = .next t) : t.rc ∈ ResultCode.ok :: failureCodes i := by
  rcases exec_failsOnlyWith i s t h with ⟨c, hc, rfl⟩ | hok
  · exact List.mem_cons_of_mem _ hc
  · exact hok ▸ List.mem_cons_self

/-- The same for a row of the table that several commands share. -/
theorem exec_rc_mem_of_row {row : List Instr} (hrow : ∀ j ∈ row, failureCodes j = codes) (h : exec i s = .next t)
    (hi : i ∈ row) : t.rc ∈ ResultCode.ok :: codes :=
  hrow i hi ▸ exec_rc_mem h

end

/-- Settles O7: a command that ends with another code than OK has failed, and a failure is `raiseRC`'s write alone. -/
theorem failingCommandChangesNothingElse : Obligations.FailingCommandChangesNothingElse := by
  intro i s t h hrc
  obtain ⟨c, -, rfl⟩ := (exec_failsOnlyWith i s t h).resolve_right hrc
  rfl

/-- Settles O8: the rows of the table, and a word that is no command. -/
theorem possibleResultCodes : Obligations.PossibleResultCodes := by
  refine ⟨fun i s t h => ⟨fun hi => ?_, ?_, exec_rc_mem_of_row (by decide) h, exec_rc_mem_of_row (by decide) h,
    exec_rc_mem_of_row (by decide) h, exec_rc_mem_of_row (by decide) h⟩, fun w s t hw h => ?_⟩
  · exact List.mem_singleton.1 (exec_rc_mem_of_row (by decide) h hi)
  · rintro rfl
    exact exec_rc_mem h
  · cases hd : decode w with
    | ok i => exact absurd hd (hw i)
    | error e =>
      rw [runCommand_of_error hd] at h
      injection h with h
      exact h ▸ rfl

end Sys2Proof.Machine

/-! PROOFS. The statements on reset (70_reset_and_hazards.md): the reset input, the reset values, and the history that a
successful INIT erases. -/

namespace Sys2Proof.Machine

/-! ### The reset input (R260) -/

/-- Settles O52: the reset input is the first pending event, and it is no command. -/
theorem powerOnReset : Obligations.PowerOnReset :=
  fun _ _ hp => step_pending hp

/-! ### The reset values (R261, R262) -/

/-- The flags are clear and the code is OK. -/
theorem State.reset_status : State.reset.status = 0#32 := by decide

/-- No grain of the cleared pool is active. -/
theorem Gran.zero_activeCount : Gran.zero.activeCount = 0 :=
  List.countP_eq_zero.2 (fun _ hx => by rw [List.eq_of_mem_replicate hx]; decide)

/-- The reset arena is a cleared one, so IN_L to WORK read zero (20_memory.md R78). -/
theorem State.reset_readByte_low {a : Nat} (ha : a < ioEnd) : State.reset.readByte a = 0#8 :=
  Arena.byte_clearIo_low State.reset.powerCycles ha []

/-- The registers that read 0 after reset: STATUS and GRAIN_ACTIVE are computed, the others are stored words, or are
gated by a flag that is clear. -/
theorem State.reset_regRead_zero :
    ∀ off ∈ [0x00, 0x04, 0x08, 0x0C, 0x10, 0x14, 0x18, 0x1C, 0x20, 0x2C, 0x30, 0x34, 0x38],
      State.reset.regRead off = 0#32 := by
  have hgrains : State.reset.regRead 0x30 = 0#32 := congrArg (BitVec.ofNat 32) Gran.zero_activeCount
  simp only [List.forall_mem_cons]
  exact ⟨rfl, State.reset_status, rfl, rfl, rfl, rfl, rfl, rfl, rfl, rfl, hgrains, rfl, rfl, nofun⟩

/-- Settles O53: the configuration registers read their defaults because the engine is not ready; every other value is
the one the reset state holds. -/
theorem resetValues : Obligations.ResetValues := by
  obtain ⟨hrate, hblock⟩ := State.regRead_config_of_not_ready (s := State.reset) rfl
  have hconv : ∀ ch ∈ [State.reset.conv.left, State.reset.conv.right],
      ch.input = List.replicate 128 0#32 ∧ ch.tail = List.replicate 256 0#32 :=
    List.forall_mem_cons.2 ⟨⟨rfl, rfl⟩, List.forall_mem_singleton.2 ⟨rfl, rfl⟩⟩
  have hspec : ∀ ch ∈ [State.reset.spec.left, State.reset.spec.right], ch = SpecChan.zero :=
    List.forall_mem_cons.2 ⟨rfl, List.forall_mem_singleton.2 rfl⟩
  exact ⟨State.reset_regRead_zero, hrate, hblock, rfl, rfl, rfl, rfl, rfl, rfl, rfl, rfl, rfl, rfl, rfl, rfl, hconv,
    rfl, rfl, rfl, rfl, hspec, rfl, fun _ ha => State.reset_readByte_low ha⟩

/-! ### INIT erases the history (R263) -/

section
variable {s t : State}

/-- INIT's command word runs INIT, with CMD written. -/
theorem runCommand_init (s : State) : runCommand 0x00000001#32 s = execInit { s with cmd := 0x00000001#32 } :=
  runCommand_of_decode (decode_encode .init) s

/-- The arguments of an INIT that answers OK pass both checks. -/
theorem runCommand_init_checks_of_ok (h : runCommand 0x00000001#32 s = .next t) (hok : t.rc = .ok) :
    rateOk s.arg0 = true ∧ blockOk s.arg1 = true := by
  rw [runCommand_init] at h
  rcases execInit_cases h with ⟨c, hc, rfl⟩ | ⟨hr, hb, -⟩
  · simp only [raiseRC_rc] at hok
    simp [hok] at hc
  · exact ⟨hr, hb⟩

/-- INIT's command word completes when its arguments pass the checks. -/
theorem runCommand_init_completes (hr : rateOk s.arg0 = true) (hb : blockOk s.arg1 = true) :
    runCommand 0x00000001#32 s =
      .next (finish 0#32 0#32 (initialised s.arg0 s.arg1 { s with cmd := 0x00000001#32 })) :=
  (runCommand_init s).trans (execInit_completes hr hb)

end

/-- Settles O13: the checks read the two arguments alone, so both machines pass them; what INIT writes then depends on
the arguments alone, and IN_L to WORK are zeroed. -/
theorem initErasesHistory : Obligations.InitErasesHistory := by
  intro s s' t t' h0 h1 ht ht' hok
  obtain ⟨hr, hb⟩ := runCommand_init_checks_of_ok ht hok
  rw [runCommand_init_completes hr hb] at ht
  rw [runCommand_init_completes (h0 ▸ hr) (h1 ▸ hb)] at ht'
  injection ht with ht
  injection ht' with ht'
  subst ht ht'
  exact ⟨rfl, h0, h1, rfl, rfl, rfl, rfl, rfl, h0, congrArg BitVec.toNat h1, rfl, rfl, rfl, rfl, rfl, rfl, fun _ ha =>
    (initialised_readByte_low s.arg0 s.arg1 ha).trans (initialised_readByte_low s'.arg0 s'.arg1 ha).symm⟩

end Sys2Proof.Machine
